-- ==== Sys2Proof/Word.lean ====
section
/-! DEFINITION. The word types of the block: every register, field and byte is unsigned, bit 0 least significant (R6). -/

namespace Sys2Proof

/-- A buffer byte, or a byte on the wire (R69). -/
abbrev Byte := BitVec 8

/-- A 32-bit host register as the host port sees it (R61). -/
abbrev Reg := BitVec 32

/-- A 10-bit host register index `h_idx` (R61). -/
abbrev HostIdx := BitVec 10

end Sys2Proof
end

