-- ==== Sys2Proof/Config.lean ====
section
/-! DEFINITION. What an implementation fixes (the parameters of R5) and the free values: what the spec leaves to the
environment or unspecified. A free value is a constant with no body: no proof can see what it is. -/

namespace Sys2Proof

/-- The implementation parameters of R5. State carries one record of them, which no step changes (log 3), so every
statement about a state holds for every choice of the parameters. Their legal ranges are `Params.wf`. -/
structure Params where
  /-- `CLK_PER_US`: clock cycles per microsecond. -/
  clkPerUs : Nat
  /-- `QDELAY_RESET`: the reset value of `QDELAY`. -/
  qdelayReset : BitVec 16
  /-- `DEFAULT_RETRY_WAIT_US`: the wait between retries when `WAIT` is 0, in microseconds. -/
  defaultRetryWaitUs : Nat
  /-- `TX_DEPTH`: bytes in `TXBUF`. -/
  txDepth : Nat
  /-- `RX_DEPTH`: bytes in `RXBUF`. -/
  rxDepth : Nat
  /-- `RETRY_MAX`: the largest legal `RETRY`. -/
  retryMax : Nat
  deriving DecidableEq, Repr

/-- `ceil(log2(n))`, for `n ≥ 1`. -/
def ceilLog2 (n : Nat) : Nat := if n ≤ 1 then 0 else Nat.log2 (n - 1) + 1

/-- The width R30 gives `wcnt`: `32 + ceil(log2(CLK_PER_US))` bits. -/
def Params.wcntWidthR30 (p : Params) : Nat := 32 + ceilLog2 p.clkPerUs

/-- The width of `wcnt`: that of R30, which holds every product of a 32-bit count of microseconds. R5 also allows values of
`DEFAULT_RETRY_WAIT_US` of 2^32 or more whose product it cannot hold; since R173 has the product exact and `wcnt` wide enough,
it is as wide as the product there. DESIGN CHOICE, log 7. -/
def Params.wcntWidth (p : Params) : Nat := max p.wcntWidthR30 (ceilLog2 (p.defaultRetryWaitUs * p.clkPerUs + 1))

/-- `CLK_PER_US` less one. OPEN in R5 (an integer of at least 1), so it is left free. -/
opaque Config.clkPerUsLessOne : Nat

/-- `QDELAY_RESET`. OPEN in R5 (0 to 65535), so it is left free. -/
opaque Config.qdelayReset : BitVec 16

/-- `DEFAULT_RETRY_WAIT_US` less one. OPEN in R5 (an integer of at least 1), so it is left free. -/
opaque Config.defaultRetryWaitUsLessOne : Nat

/-- The parameters of the machine `State.reset` describes: the OPEN ones free, the others at the defaults of R5. -/
def Config.params : Params where
  clkPerUs := Config.clkPerUsLessOne + 1
  qdelayReset := Config.qdelayReset
  defaultRetryWaitUs := Config.defaultRetryWaitUsLessOne + 1
  txDepth := 32
  rxDepth := 32
  retryMax := 255

/-- `sda_i` in cycle `n`, when no input is given for that cycle: any value (R49, U8). Free value, log 1. -/
opaque Config.freeSdaI : Nat → Bool

/-- `io_rd_err` in cycle `n`, when no input is given for that cycle: any value (R24, U8). Free value, log 1. -/
opaque Config.freeIoRdErr : Nat → Bool

/-- `io_wr_err` in cycle `n`, when no input is given for that cycle: any value (R24, U8). Free value, log 1. -/
opaque Config.freeIoWrErr : Nat → Bool

/-- What `TXBUF[i]` holds after the `e`-th reset until it is written: unspecified (R45, R241, U1, U6).
Free value, log 4. -/
opaque Config.freeTxByte : Nat → Nat → Byte

/-- What `RXBUF[i]` holds after the `e`-th reset until it is written: unspecified (R45, R241, U6, U7).
Free value, log 4. -/
opaque Config.freeRxByte : Nat → Nat → Byte

end Sys2Proof
end

