-- ==== Sys2Proof/Syntax.lean ====
section
/-! DEFINITION. The operations of the block: one constructor per row of the opcode table (R105). -/

namespace Sys2Proof

/-- The three operation formats (R90). -/
inductive Format where
  /-- Format L, 3 bits: the interface from the byte engine to the line driver. -/
  | line
  /-- Format B, 12 bits: the interface from the sequencer to the byte engine. -/
  | byte
  /-- Format H, 43 bits: the host port. -/
  | host
  deriving DecidableEq, Repr

/-- The thirteen operations (R105). -/
inductive Instr where
  /-- `SCL_LO` (R123): drive SCL low. -/
  | sclLo
  /-- `SCL_HI` (R124): release SCL, or drive it high under `CFG.FORCE_SCL_HIGH`. -/
  | sclHi
  /-- `SDA_LO` (R125): drive SDA low. -/
  | sdaLo
  /-- `SDA_HI` (R126): release SDA. -/
  | sdaHi
  /-- `SDA_RD` (R127): sample SDA. -/
  | sdaRd
  /-- `B_INIT` (R143): initialise the bus. -/
  | bInit
  /-- `B_START` (R145): START condition. -/
  | bStart
  /-- `B_STOP` (R146): STOP condition. -/
  | bStop
  /-- `B_OUT data` (R147): byte transmit with acknowledge. -/
  | bOut (data : Byte)
  /-- `B_IN last` (R150): byte receive with acknowledge. -/
  | bIn (last : Bool)
  /-- `HREAD idx` (R64): host register read. -/
  | hread (idx : HostIdx)
  /-- `HWRITE idx v` (R67): host register write. -/
  | hwrite (idx : HostIdx) (v : Reg)
  /-- `TRANSACTION` (R171): the write of `CMD` with bit 0 set. Its other data bits are ignored (R95). -/
  | transaction
  deriving DecidableEq, Repr

/-- The format an operation belongs to (R90). -/
def Instr.format : Instr → Format
  | .sclLo | .sclHi | .sdaLo | .sdaHi | .sdaRd => .line
  | .bInit | .bStart | .bStop | .bOut _ | .bIn _ => .byte
  | .hread _ | .hwrite _ _ | .transaction => .host

end Sys2Proof
end

