-- ==== Sys2Proof/Decode.lean ====
section
/-! DEFINITION. The encodings of R91 to R95: the decoder, total on every word of the three interfaces and rejecting by
name, then the encoder, written from the same tables. -/

namespace Sys2Proof

/-- A word on one of the three interfaces (R90). -/
inductive CodeWord where
  /-- `lop[2:0]` (R91). -/
  | l (lop : BitVec 3)
  /-- `bcmd[11:0]` (R93). -/
  | b (bcmd : BitVec 12)
  /-- A host port request, `h_we` bit 42, `h_idx` bits 41:32, `h_wdata` bits 31:0 (R90, R95). -/
  | h (req : BitVec 43)
  deriving DecidableEq, Repr

/-- Why a word stands for no operation. -/
inductive DecodeError where
  /-- `lop` 100, 101 or 111: reserved (R92, R101). -/
  | reservedLop
  /-- `bop` 101, 110 or 111: reserved (R94, R101). -/
  | reservedBop
  /-- `last` or `data` is not 0 in a byte command that does not use it (R93). -/
  | unusedOperandBits
  /-- A bit is set above the width of the word's format (R90). -/
  | bitsAboveFormat
  deriving DecidableEq, Repr

/-- The line-operation codes of R92. -/
abbrev Lop.sclLo : BitVec 3 := 0b000#3
abbrev Lop.sclHi : BitVec 3 := 0b001#3
abbrev Lop.sdaLo : BitVec 3 := 0b010#3
abbrev Lop.sdaHi : BitVec 3 := 0b011#3
abbrev Lop.sdaRd : BitVec 3 := 0b110#3

/-- The byte-command codes of R94. -/
abbrev BopCode.init : BitVec 3 := 0b000#3
abbrev BopCode.start : BitVec 3 := 0b001#3
abbrev BopCode.stop : BitVec 3 := 0b010#3
abbrev BopCode.out : BitVec 3 := 0b011#3
abbrev BopCode.inp : BitVec 3 := 0b100#3

/-- Format L (R92). -/
def decodeLine (lop : BitVec 3) : Except DecodeError Instr :=
  if lop = Lop.sclLo then .ok .sclLo
  else if lop = Lop.sclHi then .ok .sclHi
  else if lop = Lop.sdaLo then .ok .sdaLo
  else if lop = Lop.sdaHi then .ok .sdaHi
  else if lop = Lop.sdaRd then .ok .sdaRd
  else .error .reservedLop

/-- Format B (R93, R94): `bop` is bits 11:9, `last` bit 8, `data` bits 7:0. -/
def decodeByte (bcmd : BitVec 12) : Except DecodeError Instr :=
  let bop := bcmd.extractLsb' 9 3
  let last := bcmd.getLsbD 8
  let data := bcmd.extractLsb' 0 8
  if bop = BopCode.out then
    if last then .error .unusedOperandBits else .ok (.bOut data)
  else if bop = BopCode.inp then
    if data = 0#8 then .ok (.bIn last) else .error .unusedOperandBits
  else if bop = BopCode.init ∨ bop = BopCode.start ∨ bop = BopCode.stop then
    if last ∨ data ≠ 0#8 then .error .unusedOperandBits
    else if bop = BopCode.init then .ok .bInit
    else if bop = BopCode.start then .ok .bStart
    else .ok .bStop
  else .error .reservedBop

/-- Format H (R95): on the host port nothing is illegal (R101). `TRANSACTION` matches before `HWRITE`. -/
def decodeHost (req : BitVec 43) : Instr :=
  let idx := req.extractLsb' 32 10
  let v := req.extractLsb' 0 32
  if req.getLsbD 42 then
    if idx = 0#10 ∧ v.getLsbD 0 then .transaction else .hwrite idx v
  else .hread idx

/-- The decoder of all three interfaces. -/
def decode : CodeWord → Except DecodeError Instr
  | .l lop => decodeLine lop
  | .b bcmd => decodeByte bcmd
  | .h req => .ok (decodeHost req)

/-- The encoder (R92, R93, R94, R95). Bits a row ignores (`h_wdata` of `HREAD`, `h_wdata[31:1]` of `TRANSACTION`) are
written as 0. -/
def encode : Instr → CodeWord
  | .sclLo => .l Lop.sclLo
  | .sclHi => .l Lop.sclHi
  | .sdaLo => .l Lop.sdaLo
  | .sdaHi => .l Lop.sdaHi
  | .sdaRd => .l Lop.sdaRd
  | .bInit => .b (BopCode.init ++ (0#1 ++ 0#8))
  | .bStart => .b (BopCode.start ++ (0#1 ++ 0#8))
  | .bStop => .b (BopCode.stop ++ (0#1 ++ 0#8))
  | .bOut data => .b (BopCode.out ++ (0#1 ++ data))
  | .bIn last => .b (BopCode.inp ++ (BitVec.ofBool last ++ 0#8))
  | .hread idx => .h (0#1 ++ (idx ++ 0#32))
  | .hwrite idx v => .h (1#1 ++ (idx ++ v))
  | .transaction => .h (1#1 ++ (0#10 ++ 1#32))

/-- The format of an interface word. -/
def CodeWord.format : CodeWord → Format
  | .l _ => .line
  | .b _ => .byte
  | .h _ => .host

/-- The bits of a host port word that its row does not ignore (the `mask` of the opcode table): for a read all but
`h_wdata`, for `TRANSACTION` all but `h_wdata[31:1]`, for a write every bit. -/
def hostMask (req : BitVec 43) : BitVec 43 :=
  match decodeHost req with
  | .hread _ => 0x7FF00000000#43
  | .transaction => 0x7FF00000001#43
  | _ => 0x7FFFFFFFFFF#43

/-- The interface word that `nbits` bits `w` of an opcode-table row stand for. The formats have one fixed width each
(R90: 3, 12 and 43 bits), so in whole bytes the width tells the format: up to one byte format L, up to two bytes format
B, anything longer format H. -/
def codeWordOf (nbits w : Nat) : Except DecodeError CodeWord :=
  if nbits ≤ 8 then
    if w < 2 ^ 3 then .ok (.l (BitVec.ofNat 3 w)) else .error .bitsAboveFormat
  else if nbits ≤ 16 then
    if w < 2 ^ 12 then .ok (.b (BitVec.ofNat 12 w)) else .error .bitsAboveFormat
  else
    if w < 2 ^ 43 then .ok (.h (BitVec.ofNat 43 w)) else .error .bitsAboveFormat

/-- The operation the decoder reads from a word of an opcode-table row. -/
def decodeTableWord (nbits w : Nat) : Option Instr :=
  match codeWordOf nbits w with
  | .error _ => none
  | .ok c =>
    match decode c with
    | .error _ => none
    | .ok i => some i

end Sys2Proof
end

