-- ==== Sys2Proof/Machine/State.lean ====
section
/-! DEFINITION. The state of the block: everything R20 to R46 name, as plain data, the inputs of the cycles to come, and
the state after reset (R47). -/

namespace Sys2Proof.Machine

/-- The direction of a line (R6, R20): `inp` is released (encoded 0), `out` is driven (encoded 1). -/
inductive Dir where
  | inp
  | out
  deriving DecidableEq, Repr

/-- The byte command in progress (R94). The reserved codes have no constructor (R101). -/
inductive Bop where
  | init
  | start
  | stop
  | out
  | inp
  deriving DecidableEq, Repr

/-- The sequencer state (R28). The reserved code 15 has no constructor (R101). -/
inductive Seq where
  | idle
  | init
  | wStart
  | wAddr
  | wData
  | wStop
  | preWait
  | rStart
  | rAddr
  | rnStop
  | retryWait
  | rData
  | rStop
  | abStop
  | fault
  deriving DecidableEq, Repr

/-- The failure causes (R210). The codes 6 to 15 are never produced and have no constructor. -/
inductive FailCode where
  | none
  | badArg
  | wAddrNak
  | wDataNak
  | rAddrNak
  | lineWr
  deriving DecidableEq, Repr

/-- The inputs of one cycle (R246): reset, the host port request (R61), and what the bus environment answers (R21, R24). -/
structure CycleIn where
  rst : Bool
  hSel : Bool
  hWe : Bool
  hIdx : HostIdx
  hWdata : Reg
  sdaI : Bool
  ioRdErr : Bool
  ioWrErr : Bool
  deriving DecidableEq, Repr

/-- The written bytes of a buffer, by element index, indices strictly rising (`Memory.wf`). An index that is not listed
has not been written since the last reset; what it reads as is unspecified (R45). -/
abbrev Memory := List Host.Cell

/-- The whole state. Field by field it is the list under `## State` of INVENTORY.md. -/
structure State where
  /-- The implementation parameters (R5); no step changes them (log 3). -/
  par : Params
  /-- `scl_dir` (R20). -/
  sclDir : Dir
  /-- `scl_val` (R20). -/
  sclVal : Bool
  /-- `sda_dir` (R20). `sda_val` is hard-wired 0: `State.sdaVal`. -/
  sdaDir : Dir
  /-- `bop` (R25). -/
  bop : Bop
  /-- `bdata` (R25). -/
  bdata : Byte
  /-- `blast` (R25). -/
  blast : Bool
  /-- `ack` (R25): true is ACK. -/
  ack : Bool
  /-- `a7` (R25). -/
  a7 : BitVec 7
  /-- `widx` (R25). -/
  widx : BitVec 9
  /-- `ridx` (R25). -/
  ridx : BitVec 9
  /-- `tries` (R25). -/
  tries : BitVec 16
  /-- `seq`, the first half of the program counter (R27). -/
  seq : Seq
  /-- `ustep`, the second half of the program counter (R27). -/
  ustep : BitVec 6
  /-- `dly` (R30). -/
  dly : BitVec 17
  /-- `wcnt` (R30), a count of `Params.wcntWidth` bits, into which every load fits exactly (R173, R198; log 7). -/
  wcnt : Nat
  /-- The implemented bits of `CFG` (R33). -/
  cfg : BitVec 4
  /-- The implemented bits of `ADDR` (R34). -/
  addr : BitVec 7
  /-- The implemented bits of `WLEN` (R35). -/
  wlen : BitVec 16
  /-- The implemented bits of `RLEN` (R36). -/
  rlen : BitVec 16
  /-- The implemented bits of `RETRY` (R37). -/
  retry : BitVec 16
  /-- `WAIT` (R38). -/
  wait : Reg
  /-- The implemented bits of `QDELAY` (R39). -/
  qdelay : BitVec 16
  /-- `STATUS.BUSY` (R40). -/
  busy : Bool
  /-- `STATUS.DONE` (R40). -/
  done : Bool
  /-- `STATUS.OK` (R40). -/
  ok : Bool
  /-- `STATUS.NAK_SEEN` (R40). -/
  nakSeen : Bool
  /-- `STATUS.RDERR_SEEN` (R40). -/
  rderrSeen : Bool
  /-- `STATUS.FAULT` (R40). -/
  fault : Bool
  /-- `STATUS.START_OPEN` (R40). -/
  startOpen : Bool
  /-- `STATUS.FAIL_CODE` (R40, R210). -/
  failCode : FailCode
  /-- `RESULT.RXCNT` (R41). -/
  rxcnt : BitVec 9
  /-- `RESULT.FAIL_INDEX` (R41). -/
  failIndex : BitVec 9
  /-- `DIAG.FAIL_BYTE` (R42). -/
  failByte : Byte
  /-- `TXBUF` (R45). -/
  txbuf : Memory
  /-- `RXBUF` (R45). -/
  rxbuf : Memory
  /-- The model's own: what the output `h_rdata` drove in the cycle just ended (R61; log 5). -/
  hRdata : Reg
  /-- The model's own: the inputs of the cycles to come, this cycle's first (log 1). -/
  ins : List CycleIn
  /-- The model's own: the number of cycles run, for free wire inputs (log 1). -/
  cycle : Nat
  /-- The model's own: the number of resets taken, for unspecified buffer bytes (log 4). -/
  epoch : Nat
  deriving DecidableEq, Repr

/-- The reasons to stop with a fault: there are none. No behaviour of the spec stops the block; a failure is an outcome in
status fields (R210), and `S_FAULT` is a state in which the machine goes on doing nothing (R220). -/
inductive Fault where
  deriving DecidableEq, Repr

/-- The reasons an operation is refused. -/
inductive Refusal where
  /-- Raised by an arm of `exec` whose operation has no meaning yet; safe. No arm raises it: every operation is modelled. -/
  | notModelled (mnemonic : String)
  /-- Raised where a word of an internal interface decodes to nothing (R101: a model "refuses (has no step for)" a
  reserved code); safe. No state of this model holds such a word, and no step raises it. -/
  | reservedCode (e : DecodeError)
  deriving DecidableEq, Repr

/-- The reset state of R47, for given parameters: the `e`-th reset, taken with the inputs `ins` still to come and `n`
cycles run. -/
def State.atReset (p : Params) (e n : Nat) (ins : List CycleIn) : State where
  par := p
  sclDir := .inp
  sclVal := false
  sdaDir := .inp
  bop := .init
  bdata := 0
  blast := false
  ack := false
  a7 := 0
  widx := 0
  ridx := 0
  tries := 0
  seq := .idle
  ustep := 0
  dly := 0
  wcnt := 0
  cfg := 0
  addr := 0
  wlen := 0
  rlen := 0
  retry := 0
  wait := 0
  qdelay := p.qdelayReset
  busy := false
  done := false
  ok := false
  nakSeen := false
  rderrSeen := false
  fault := false
  startOpen := false
  failCode := .none
  rxcnt := 0
  failIndex := 0
  failByte := 0
  txbuf := []
  rxbuf := []
  hRdata := 0
  ins := ins
  cycle := n
  epoch := e

/-- The machine right after reset (R47), with nothing scheduled at its inputs. -/
def State.reset : State := State.atReset Config.params 0 0 []

end Sys2Proof.Machine
end

