-- ==== Sys2Proof/Machine/Ops.lean ====
section
/-! DEFINITION. The shared operations over memory, registers and inputs; raising a failure, the fatal abort and the end of
a transaction (the block's exception entry and its return), each once. -/

namespace Sys2Proof.Machine

/-- Run `f` on the next state of `o`; a fault or a refusal stays what it is. -/
def andThen (o : Host.Outcome State Fault Refusal) (f : State → Host.Outcome State Fault Refusal) :
    Host.Outcome State Fault Refusal :=
  match o with
  | .next s => f s
  | .fault r => .fault r
  | .refused r => .refused r

/-! ### Buffers (R45, R60, R76) -/

/-- The canonical form of a buffer: indices strictly rising. An unlisted index reads as nothing, so no entry can equal
what an unlisted index reads as. -/
abbrev Memory.wf (m : Memory) : Prop := m.Pairwise (fun a b => a.1 < b.1)

/-- The byte written at index `i`, or `none` where nothing has been written since the last reset. -/
def Memory.read : Memory → Nat → Option Byte
  | [], _ => none
  | (k, v) :: m, i => if k = i then some v else Memory.read m i

/-- Write one byte, keeping the canonical form. -/
def Memory.write : Memory → Nat → Byte → Memory
  | [], i, b => [(i, b)]
  | (k, v) :: m, i, b =>
    if i < k then (i, b) :: (k, v) :: m
    else if i = k then (i, b) :: m
    else (k, v) :: Memory.write m i b

/-- `MemRead(TXBUF, i)` (R7, R76). An element never written since the last reset reads as a free value (R45, U1, U6; log 4). -/
def State.txByte (s : State) (i : Nat) : Byte :=
  (Memory.read s.txbuf i).getD (Config.freeTxByte s.epoch i)

/-- `MemRead(RXBUF, i)` (R7, R63). An element never written since the last reset reads as a free value (R45, U6, U7; log 4). -/
def State.rxByte (s : State) (i : Nat) : Byte :=
  (Memory.read s.rxbuf i).getD (Config.freeRxByte s.epoch i)

/-! ### The inputs of a cycle (R246) -/

/-- The inputs of cycle `n` when none are given for it: no reset, no host request, and a bus environment under no law
(R49, U8). Free values, log 1. -/
def CycleIn.free (n : Nat) : CycleIn where
  rst := false
  hSel := false
  hWe := false
  hIdx := 0
  hWdata := 0
  sdaI := Config.freeSdaI n
  ioRdErr := Config.freeIoRdErr n
  ioWrErr := Config.freeIoWrErr n

/-- The inputs of the cycle `k` cycles ahead of the present one. -/
def State.inputAt (s : State) (k : Nat) : CycleIn :=
  (s.ins.drop k).headD (CycleIn.free (s.cycle + k))

/-- The inputs of the present cycle. -/
def State.cur (s : State) : CycleIn := s.ins.headD (CycleIn.free s.cycle)

/-- The format H word on the host port: `h_we` bit 42, `h_idx` bits 41:32, `h_wdata` bits 31:0 (R95). -/
def CycleIn.hostWord (c : CycleIn) : BitVec 43 := BitVec.ofBool c.hWe ++ (c.hIdx ++ c.hWdata)

/-- The edge that ends a cycle: the next cycle's inputs come up. -/
def State.closeCycle (s : State) : State := { s with ins := s.ins.tail, cycle := s.cycle + 1 }

/-- A cycle with `rst = 1` (R240): the reset state, whatever the state was; `h_rdata` is 0. The buffers are unspecified
again (R241), so the reset count goes up. -/
def State.restart (s : State) : State := State.atReset s.par (s.epoch + 1) (s.cycle + 1) s.ins.tail

/-! ### Fields of `CFG` (R33) -/

/-- `CFG.FORCE_SCL_HIGH`. -/
def State.forceSclHigh (s : State) : Bool := s.cfg.getLsbD 0
/-- `CFG.SKIP_DELAY`. -/
def State.skipDelay (s : State) : Bool := s.cfg.getLsbD 1
/-- `CFG.IGNORE_NAK`. -/
def State.ignoreNak (s : State) : Bool := s.cfg.getLsbD 2
/-- `CFG.AIP`. -/
def State.aip (s : State) : Bool := s.cfg.getLsbD 3

/-! ### The delay (R121, R122) -/

/-- The tail of a set op, `2 * Q'`: two calls of the delay primitive of `QDELAY` cycles each, none under `SKIP_DELAY`. -/
def State.tail (s : State) : BitVec 17 := if s.skipDelay then 0 else s.qdelay.setWidth 17 * 2#17

/-! ### The program counter and the byte command registers (R27, R93, R140) -/

/-- `pc <- (q, u)`. -/
def State.setPc (s : State) (q : Seq) (u : BitVec 6) : State := { s with seq := q, ustep := u }

/-- Start a byte command: load `bop`, `blast`, `bdata` from the command word and point `ustep` at its first line op
(R93, R140). -/
def State.startCommand (s : State) (b : Bop) (last : Bool) (data : Byte) : State :=
  { s with bop := b, blast := last, bdata := data, ustep := 0 }

/-! ### Failures (R216, R220) and the end of a transaction (R181) -/

/-- `raise Fail(code, index, byte)` (R216): record the failure. Nothing else is saved. -/
def State.raiseFail (s : State) (code : FailCode) (index : BitVec 9) (byte : Byte) : State :=
  { s with failCode := code, failIndex := index, failByte := byte }

/-- `FatalAbort` (R220): both lines released, `S_FAULT` until reset, `F_LINE_WR` recorded; `scl_val`, `ustep` and
`START_OPEN` unchanged. R27 says that `ustep` is 0 in states that run no byte command; `S_FAULT`, which runs none, keeps it as
R220, V19 and V39b have it. DESIGN CHOICE, log 20. -/
def State.fatalAbort (s : State) : State :=
  { s.raiseFail .lineWr 0 0 with
    sclDir := .inp
    sdaDir := .inp
    seq := .fault
    dly := 0
    wcnt := 0
    busy := false
    done := true
    ok := false
    fault := true }

/-- `finish(ok)` (R181): back to `S_IDLE` with the outcome; nothing else changes. -/
def State.finish (s : State) (okay : Bool) : State :=
  { s with seq := .idle, ustep := 0, busy := false, done := true, ok := okay }

end Sys2Proof.Machine
end

