-- ==== Sys2Proof/Machine/Flags.lean ====
section
/-! DEFINITION. The flags of R44, the words the host reads them in (R40 to R43), and the outputs (R21, R46, R244). -/

namespace Sys2Proof.Machine

/-- The level of a direction as a bit: 0 = in, 1 = out (R6). -/
def Dir.bit : Dir → Bool
  | .inp => false
  | .out => true

/-- The codes of R28. -/
def Seq.code : Seq → BitVec 4
  | .idle => 0
  | .init => 1
  | .wStart => 2
  | .wAddr => 3
  | .wData => 4
  | .wStop => 5
  | .preWait => 6
  | .rStart => 7
  | .rAddr => 8
  | .rnStop => 9
  | .retryWait => 10
  | .rData => 11
  | .rStop => 12
  | .abStop => 13
  | .fault => 14

/-- The codes of R210. -/
def FailCode.code : FailCode → BitVec 4
  | .none => 0
  | .badArg => 1
  | .wAddrNak => 2
  | .wDataNak => 3
  | .rAddrNak => 4
  | .lineWr => 5

/-- `sda_val`, hard-wired 0 (R22). -/
def State.sdaVal (_ : State) : Bool := false

/-- `STATUS` (R40), bit 31 first. -/
def State.statusWord (s : State) : Reg :=
  0#10 ++ (s.ustep ++ (s.seq.code ++ (s.failCode.code ++ (0#1 ++ (BitVec.ofBool s.startOpen ++
    (BitVec.ofBool s.fault ++ (BitVec.ofBool s.rderrSeen ++ (BitVec.ofBool s.nakSeen ++
      (BitVec.ofBool s.ok ++ (BitVec.ofBool s.done ++ BitVec.ofBool s.busy))))))))))

/-- `RESULT` (R41), bit 31 first. -/
def State.resultWord (s : State) : Reg := 0#7 ++ (s.failIndex ++ (0#7 ++ s.rxcnt))

/-- `DIAG` (R42), bit 31 first. -/
def State.diagWord (s : State) : Reg := 0#8 ++ (s.tries ++ s.failByte)

/-- `LINES` (R43), bit 31 first; bit 4 is `sda_i` of the cycle of the read. -/
def State.linesWord (s : State) : Reg :=
  0#27 ++ (BitVec.ofBool s.cur.sdaI ++ (BitVec.ofBool s.sdaVal ++ (BitVec.ofBool s.sdaDir.bit ++
    (BitVec.ofBool s.sclVal ++ BitVec.ofBool s.sclDir.bit))))

/-- What an accepted GO clears (R172): the flags and results of the transaction before, and the counters. -/
def State.clearResults (s : State) : State :=
  { s with
    done := false
    ok := false
    nakSeen := false
    rderrSeen := false
    failCode := .none
    failIndex := 0
    failByte := 0
    rxcnt := 0
    tries := 0
    widx := 0
    ridx := 0 }

/-- `if ack = 0: NAK_SEEN <- 1` (R177, R178). -/
def State.noteNak (s : State) : State := { s with nakSeen := s.nakSeen || !s.ack }

/-- The outputs of a cycle, functions of the state before its edge (R21, R46, R244). -/
structure Outputs where
  sclOe : Bool
  sclO : Bool
  sdaOe : Bool
  sdaO : Bool
  busy : Bool
  done : Bool
  deriving DecidableEq, Repr

/-- `scl_oe = scl_dir`, `scl_o = scl_val`, `sda_oe = sda_dir`, `sda_o = 0`, `busy`, `done` (R244). -/
def State.outputs (s : State) : Outputs where
  sclOe := s.sclDir.bit
  sclO := s.sclVal
  sdaOe := s.sdaDir.bit
  sdaO := s.sdaVal
  busy := s.busy
  done := s.done

end Sys2Proof.Machine
end

