-- ==== Sys2Proof/Machine/Operands.lean ====
section
/-! DEFINITION. The operand forms: host register indices (R31, R64, R67), the descriptor (R96 to R98), the address byte
(R97), the byte commands of the sequencer states (R173) and the loads of the wait counter. -/

namespace Sys2Proof.Machine

/-! ### The register map (R31) -/

/-- `MemRead(HOST, idx)` (R64). -/
def State.hostRead (s : State) (idx : HostIdx) : Reg :=
  let n := idx.toNat
  if n = 0x001 then s.cfg.setWidth 32
  else if n = 0x002 then s.addr.setWidth 32
  else if n = 0x003 then s.wlen.setWidth 32
  else if n = 0x004 then s.rlen.setWidth 32
  else if n = 0x005 then s.retry.setWidth 32
  else if n = 0x006 then s.wait
  else if n = 0x007 then s.qdelay.setWidth 32
  else if n = 0x008 then s.statusWord
  else if n = 0x009 then s.resultWord
  else if n = 0x00A then s.diagWord
  else if n = 0x00B then s.linesWord
  else if 0x100 ≤ n ∧ n < 0x100 + s.par.txDepth then (s.txByte (n - 0x100)).setWidth 32
  else if 0x200 ≤ n ∧ n < 0x200 + s.par.rxDepth then (s.rxByte (n - 0x200)).setWidth 32
  else 0

/-- The storage a host write reaches when the block is not busy (R67), `CMD` apart; any other index ignores it (R66). -/
def State.hostStore (s : State) (idx : HostIdx) (v : Reg) : State :=
  let n := idx.toNat
  if n = 0x001 then { s with cfg := v.setWidth 4 }
  else if n = 0x002 then { s with addr := v.setWidth 7 }
  else if n = 0x003 then { s with wlen := v.setWidth 16 }
  else if n = 0x004 then { s with rlen := v.setWidth 16 }
  else if n = 0x005 then { s with retry := v.setWidth 16 }
  else if n = 0x006 then { s with wait := v }
  else if n = 0x007 then { s with qdelay := v.setWidth 16 }
  else if 0x100 ≤ n ∧ n < 0x100 + s.par.txDepth then
    { s with txbuf := Memory.write s.txbuf (n - 0x100) (v.setWidth 8) }
  else s

/-! ### The descriptor (R96) -/

/-- The index in `TXBUF` of the first payload byte: `first = CFG.AIP` (R175). -/
def State.first (s : State) : Nat := if s.aip then 1 else 0

/-- The slave address the descriptor names (R98, R175). -/
def State.slaveAddr (s : State) : BitVec 7 := if s.aip then (s.txByte 0).extractLsb' 1 7 else s.addr

/-- An illegal descriptor (R172, R211). -/
def State.badDescriptor (s : State) : Bool :=
  decide (s.wlen.toNat > s.par.txDepth) || decide (s.rlen.toNat > s.par.rxDepth)
    || decide (s.retry.toNat > s.par.retryMax) || (s.aip && s.wlen == 0)

/-- The address byte `{a7, direction}` (R97): direction 0 writes, 1 reads. -/
def addressByte (a7 : BitVec 7) (dir : Bool) : Byte := a7 ++ BitVec.ofBool dir

/-! ### What the sequencer states run (R28, R173) -/

/-- The codes of R94. -/
def Bop.code : Bop → BitVec 3
  | .init => BopCode.init
  | .start => BopCode.start
  | .stop => BopCode.stop
  | .out => BopCode.out
  | .inp => BopCode.inp

/-- The command word `{bop, last, data}` (R93). -/
def bcmdWord (b : Bop) (last : Bool) (data : Byte) : BitVec 12 := b.code ++ (BitVec.ofBool last ++ data)

/-- The byte command a sequencer state runs, none for the states that run none (R28). -/
def Seq.command : Seq → Option Bop
  | .idle | .preWait | .retryWait | .fault => none
  | .init => some .init
  | .wStart | .rStart => some .start
  | .wAddr | .wData | .rAddr => some .out
  | .wStop | .rnStop | .rStop | .abStop => some .stop
  | .rData => some .inp

/-- The command word `enter(q, n)` puts on the interface to the byte engine (R173); `n` is the `TXBUF` or `RXBUF` index. -/
def State.bcmdFor (s : State) (q : Seq) (n : BitVec 9) : Option (BitVec 12) :=
  match q with
  | .idle | .preWait | .retryWait | .fault => none
  | .init => some (bcmdWord .init false 0)
  | .wStart | .rStart => some (bcmdWord .start false 0)
  | .wAddr => some (bcmdWord .out false (addressByte s.a7 false))
  | .wData => some (bcmdWord .out false (s.txByte n.toNat))
  | .rAddr => some (bcmdWord .out false (addressByte s.a7 true))
  | .rData => some (bcmdWord .inp (decide (n.toNat + 1 = s.rlen.toNat)) 0)
  | .wStop | .rnStop | .rStop | .abStop => some (bcmdWord .stop false 0)

/-- The microseconds between two attempts of the read address: `WAIT`, or the default when it is 0 (R173, R186). -/
def State.retryWaitUs (s : State) : Nat := if s.wait ≠ 0 then s.wait.toNat else s.par.defaultRetryWaitUs

/-- The load of `wcnt` by `enter(S_PREWAIT)` and `enter(S_RETRYWAIT)` (R173): exact products (R198), which fit the register
(`Params.wcntWidth`, log 7). Any other state leaves it. -/
def State.waitLoad (s : State) (q : Seq) : Nat :=
  match q with
  | .preWait => s.wait.toNat * s.par.clkPerUs
  | .retryWait => s.retryWaitUs * s.par.clkPerUs
  | .idle | .init | .wStart | .wAddr | .wData | .wStop | .rStart | .rAddr | .rnStop | .rData | .rStop | .abStop | .fault =>
    s.wcnt

end Sys2Proof.Machine
end

