-- ==== Sys2Proof/Machine/LineDriver.lean ====
section
/-! DEFINITION. The line driver (R120 to R132): the meanings of the five line operations. Each is one cycle's effect of
the operation; the byte engine's own part of that cycle (`ustep`, `START_OPEN`) is in `Machine/Engine.lean` (R142). -/

namespace Sys2Proof.Machine

/-- A set op (R120): on a write failure `FatalAbort` and nothing else (R128); else the line change `f` and the tail (R122). -/
def setOp (f : State → State) (s : State) : State :=
  if s.cur.ioWrErr then s.fatalAbort else { f s with dly := s.tail }

/-- The level a line read delivers: 1 when the read fails, else `sda_i` (R127). -/
def State.sample (s : State) : Bool := s.cur.ioRdErr || s.cur.sdaI

/-- The byte engine's use of a sample in the same edge: the acknowledge of `B_OUT` (R149), the next bit of `B_IN` (R152). -/
def State.deliver (s : State) (level : Bool) : State :=
  match s.bop with
  | .out => { s with ack := !level }
  | .inp => { s with bdata := s.bdata.extractLsb' 0 7 ++ BitVec.ofBool level }
  | .init | .start | .stop => s

/-- `SCL_LO` (R123). -/
def execSclLo (s : State) : Host.Outcome State Fault Refusal :=
  .next (setOp (fun s => { s with sclDir := .out, sclVal := false }) s)

/-- `SCL_HI` (R124): driven high under `CFG.FORCE_SCL_HIGH`, else released with `scl_val` unchanged. -/
def execSclHi (s : State) : Host.Outcome State Fault Refusal :=
  .next (setOp (fun s => if s.forceSclHigh then { s with sclDir := .out, sclVal := true }
    else { s with sclDir := .inp }) s)

/-- `SDA_LO` (R125). -/
def execSdaLo (s : State) : Host.Outcome State Fault Refusal :=
  .next (setOp (fun s => { s with sdaDir := .out }) s)

/-- `SDA_HI` (R126): release, never an active drive. -/
def execSdaHi (s : State) : Host.Outcome State Fault Refusal :=
  .next (setOp (fun s => { s with sdaDir := .inp }) s)

/-- `SDA_RD` (R127): sample SDA, note a failed read, deliver the sample (R149, R152). No tail. -/
def execSdaRd (s : State) : Host.Outcome State Fault Refusal :=
  .next { s.deliver s.sample with rderrSeen := s.rderrSeen || s.cur.ioRdErr, dly := 0 }

end Sys2Proof.Machine
end

