-- ==== Sys2Proof/Machine/ByteEngine.lean ====
section
/-! DEFINITION. The byte engine (R140 to R156): the micro-program of the five byte commands, and their meanings.

A byte command is a list of line operations that takes many cycles. The operation itself happens at the edge at which the
sequencer puts its word on the interface (R93, R140): it loads `bop`, `blast`, `bdata` and points `ustep` at the first line
op of the list. The list is `uop`; the cycles that follow execute it, one line op after another (R142, log 2). -/

namespace Sys2Proof.Machine

/-- `len(bop)` (R141). -/
def Bop.len : Bop → Nat
  | .init => 2
  | .start => 4
  | .stop => 4
  | .out => 36
  | .inp => 28

/-- The line op that sets SDA to a level: release for 1, drive low for 0. -/
def sdaOp (level : Bool) : BitVec 3 := if level then Lop.sdaHi else Lop.sdaLo

/-- `uop(bop, u, data, last)` (R141): the code of the line op at index `u`, for `u < len(bop)`. -/
def uop (b : Bop) (u : Nat) (data : Byte) (last : Bool) : BitVec 3 :=
  match b with
  | .init => if u = 0 then Lop.sdaHi else Lop.sclHi
  | .start =>
    if u = 0 then Lop.sclLo else if u = 1 then Lop.sdaHi else if u = 2 then Lop.sclHi else Lop.sdaLo
  | .stop =>
    if u = 0 then Lop.sclLo else if u = 1 then Lop.sdaLo else if u = 2 then Lop.sclHi else Lop.sdaHi
  | .out =>
    if u ≤ 31 then
      if u % 4 = 0 then Lop.sclLo
      else if u % 4 = 1 then sdaOp (data.getLsbD (7 - u / 4))
      else if u % 4 = 2 then Lop.sclHi
      else Lop.sclLo
    else if u = 32 then Lop.sdaHi
    else if u = 33 then Lop.sclHi
    else if u = 34 then Lop.sdaRd
    else Lop.sclLo
  | .inp =>
    if u = 0 then Lop.sdaHi
    else if u ≤ 24 then
      if (u - 1) % 3 = 0 then Lop.sclHi
      else if (u - 1) % 3 = 1 then Lop.sdaRd
      else Lop.sclLo
    else if u = 25 then sdaOp last
    else if u = 26 then Lop.sclHi
    else Lop.sclLo

/-- `B_INIT` (R143): line ops `DC`. -/
def execBInit (s : State) : Host.Outcome State Fault Refusal := .next (s.startCommand .init false 0)

/-- `B_START` (R145): line ops `cDCd`. -/
def execBStart (s : State) : Host.Outcome State Fault Refusal := .next (s.startCommand .start false 0)

/-- `B_STOP` (R146): line ops `cdCD`. -/
def execBStop (s : State) : Host.Outcome State Fault Refusal := .next (s.startCommand .stop false 0)

/-- `B_OUT data` (R147): for each bit of `data`, most significant first, `cDCc` or `cdCc`; then `DCrc`. -/
def execBOut (data : Byte) (s : State) : Host.Outcome State Fault Refusal := .next (s.startCommand .out false data)

/-- `B_IN last` (R150): `D`, eight times `Crc`, `D` or `d` for the master's NAK or ACK, `Cc`. -/
def execBIn (last : Bool) (s : State) : Host.Outcome State Fault Refusal := .next (s.startCommand .inp last 0)

end Sys2Proof.Machine
end

