-- ==== Sys2Proof/Machine/HostPort.lean ====
section
/-! DEFINITION. The host port (R61 to R67) and the acceptance of GO (R172): the meanings of `HREAD`, `HWRITE` and
`TRANSACTION`. -/

namespace Sys2Proof.Machine

/-- GO (R172): ignored unless idle and not faulted; else the results are cleared and the descriptor is rejected
(`F_BADARG`) or accepted, which latches the slave address and enters `S_INIT`, that is starts `B_INIT` (R173). -/
def go (s : State) : Host.Outcome State Fault Refusal :=
  if s.seq ≠ .idle ∨ s.fault = true then .next s
  else if s.badDescriptor then
    .next { s.clearResults with failCode := .badArg, done := true }
  else
    execBInit ({ s.clearResults with busy := true, a7 := s.slaveAddr }.setPc .init 0)

/-- A write drives 0 on `h_rdata` (R61). -/
def State.noReadData (s : State) : State := { s with hRdata := 0 }

/-- `HREAD idx` (R64): nothing but the read data of the cycle. -/
def execHread (idx : HostIdx) (s : State) : Host.Outcome State Fault Refusal :=
  .next { s with hRdata := s.hostRead idx }

/-- `HWRITE idx v` (R67): ignored while `BUSY` (R65); index 0 is `CMD`, whose bit 0 is GO. -/
def execHwrite (idx : HostIdx) (v : Reg) (s : State) : Host.Outcome State Fault Refusal :=
  if s.busy then .next s.noReadData
  else if idx = 0#10 then
    if v.getLsbD 0 then go s.noReadData else .next s.noReadData
  else .next (s.noReadData.hostStore idx v)

/-- `TRANSACTION` (R171): the write of `CMD` with bit 0 set; ignored while `BUSY` (R65), else GO. The transaction itself is
what the sequencer does in the cycles that follow (R172 to R188, `Machine/Engine.lean`; log 2). -/
def execTransaction (s : State) : Host.Outcome State Fault Refusal :=
  if s.busy then .next s.noReadData else go s.noReadData

end Sys2Proof.Machine
end

