-- ==== Sys2Proof/Machine/Dispatch.lean ====
section
/-! DEFINITION. One arm per operation. -/

namespace Sys2Proof.Machine

def exec (i : Instr) (s : State) : Host.Outcome State Fault Refusal :=
  match i with
  | .sclLo => Sys2Proof.Machine.execSclLo s
  | .sclHi => Sys2Proof.Machine.execSclHi s
  | .sdaLo => Sys2Proof.Machine.execSdaLo s
  | .sdaHi => Sys2Proof.Machine.execSdaHi s
  | .sdaRd => Sys2Proof.Machine.execSdaRd s
  | .bInit => Sys2Proof.Machine.execBInit s
  | .bStart => Sys2Proof.Machine.execBStart s
  | .bStop => Sys2Proof.Machine.execBStop s
  | .bOut data => Sys2Proof.Machine.execBOut data s
  | .bIn last => Sys2Proof.Machine.execBIn last s
  | .hread idx => Sys2Proof.Machine.execHread idx s
  | .hwrite idx v => Sys2Proof.Machine.execHwrite idx v s
  | .transaction => Sys2Proof.Machine.execTransaction s

end Sys2Proof.Machine
end

