-- ==== Sys2Proof/Machine/Engine.lean ====
section
/-! DEFINITION. The engine's part of a cycle (R246): the micro-operation step (R142), entering a sequencer state (R173),
the completion steps (R174 to R188) and the wait states (R182, R186). -/

namespace Sys2Proof.Machine

/-- The line op the pc names (R27, R141), as the code on the interface to the line driver. -/
def State.lop (s : State) : BitVec 3 := uop s.bop s.ustep.toNat s.bdata s.blast

/-- The pc names a line op that executes in this cycle (R120, R246): a byte command is running, its delay has elapsed and
it has line ops left. -/
def State.atLineOp (s : State) : Bool :=
  s.seq.command.isSome && s.dly == 0 && decide (s.ustep.toNat < s.bop.len)

/-- The byte engine's own writes in the cycle of a line op (R142): `START_OPEN` at step 3 of `B_START` and `B_STOP`
(R145, R146), and the advance of `ustep`. -/
def State.afterUop (s : State) : State :=
  { s with
    startOpen :=
      if s.bop = .start ∧ s.ustep = 3 then true
      else if s.bop = .stop ∧ s.ustep = 3 then false
      else s.startOpen
    ustep := s.ustep + 1 }

/-- A set op whose write fails takes `FatalAbort` (R128); bit 2 of the code tells a read from a set op (R91). -/
def State.uopAborts (s : State) : Bool := !s.lop.getLsbD 2 && s.cur.ioWrErr

/-- `ExecUop` (R142): decode the line op the pc names and run it; unless it took `FatalAbort`, the byte engine's own writes
follow. -/
def execUop (s : State) : Host.Outcome State Fault Refusal :=
  match decode (.l s.lop) with
  | .ok i => andThen (exec i s) (fun t => .next (if s.uopAborts then t else t.afterUop))
  | .error e => .refused (.reservedCode e)

/-- `enter(q, n)` (R173): the pc, then the byte command of the state, decoded from its word and started, or the load of
`wcnt`. -/
def enter (q : Seq) (n : BitVec 9) (s : State) : Host.Outcome State Fault Refusal :=
  match s.bcmdFor q n with
  | some w =>
    match decode (.b w) with
    | .ok i => exec i (s.setPc q 0)
    | .error e => .refused (.reservedCode e)
  | none => .next { s.setPc q 0 with wcnt := s.waitLoad q }

/-- `Complete(S_WADDR)` (R177). -/
def completeWAddr (s : State) : Host.Outcome State Fault Refusal :=
  if s.ack = false ∧ s.ignoreNak = false then
    enter .abStop 0 (s.noteNak.raiseFail .wAddrNak 0 s.bdata)
  else if s.wlen.toNat > s.first then
    enter .wData (BitVec.ofNat 9 s.first) { s.noteNak with widx := BitVec.ofNat 9 s.first }
  else enter .wStop 0 s.noteNak

/-- `Complete(S_WDATA)` (R178). -/
def completeWData (s : State) : Host.Outcome State Fault Refusal :=
  if s.ack = false ∧ s.ignoreNak = false then
    enter .abStop 0 (s.noteNak.raiseFail .wDataNak (s.widx - BitVec.ofNat 9 s.first + 1) s.bdata)
  else if s.widx.toNat + 1 < s.wlen.toNat then
    enter .wData (s.widx + 1) { s.noteNak with widx := s.widx + 1 }
  else enter .wStop 0 s.noteNak

/-- `Complete(S_WSTOP)` (R179). -/
def completeWStop (s : State) : Host.Outcome State Fault Refusal :=
  if s.rlen = 0 then .next (s.finish true) else enter .preWait 0 s

/-- `Complete(S_RADDR)` (R184): `IGNORE_NAK` is not consulted. -/
def completeRAddr (s : State) : Host.Outcome State Fault Refusal :=
  if s.ack then enter .rData 0 { s with ridx := 0 }
  else enter .rnStop 0 { s with nakSeen := true }

/-- `Complete(S_RNSTOP)` (R185). -/
def completeRnStop (s : State) : Host.Outcome State Fault Refusal :=
  if s.tries = s.retry then
    .next ((s.raiseFail .rAddrNak 0 (addressByte s.a7 true)).finish false)
  else enter .retryWait 0 { s with tries := s.tries + 1 }

/-- `Complete(S_RDATA)` (R187). -/
def completeRData (s : State) : Host.Outcome State Fault Refusal :=
  let s' := { s with rxbuf := Memory.write s.rxbuf s.ridx.toNat s.bdata, rxcnt := s.ridx + 1 }
  if s.ridx.toNat + 1 < s.rlen.toNat then enter .rData (s.ridx + 1) { s' with ridx := s.ridx + 1 }
  else enter .rStop 0 s'

/-- `Complete(seq)` (R174, R176 to R188). The states that run no byte command have no completion step. -/
def complete (s : State) : Host.Outcome State Fault Refusal :=
  match s.seq with
  | .init => enter .wStart 0 s
  | .wStart => enter .wAddr 0 s
  | .wAddr => completeWAddr s
  | .wData => completeWData s
  | .wStop => completeWStop s
  | .rStart => enter .rAddr 0 s
  | .rAddr => completeRAddr s
  | .rnStop => completeRnStop s
  | .rData => completeRData s
  | .rStop => .next (s.finish true)
  | .abStop => .next (s.finish false)
  | .idle | .preWait | .retryWait | .fault => .next s

/-- A wait state's cycle (R246): count down, then `enter(S_RSTART)`. -/
def waitCycle (s : State) : Host.Outcome State Fault Refusal :=
  if s.wcnt ≠ 0 then .next { s with wcnt := s.wcnt - 1 } else enter .rStart 0 s

/-- A byte command's cycle (R246): the delay, a line op, or the completion step. -/
def commandCycle (s : State) : Host.Outcome State Fault Refusal :=
  if s.dly ≠ 0 then .next { s with dly := s.dly - 1 }
  else if s.ustep.toNat < s.bop.len then execUop s
  else complete s

/-- The engine step of `Tick` (R246). -/
def engineStep (s : State) : Host.Outcome State Fault Refusal :=
  match s.seq with
  | .idle | .fault => .next s
  | .preWait | .retryWait => waitCycle s
  | .init | .wStart | .wAddr | .wData | .wStop | .rStart | .rAddr | .rnStop | .rData | .rStop | .abStop =>
    commandCycle s

end Sys2Proof.Machine
end

