-- ==== Sys2Proof/Machine/Cycle.lean ====
section
/-! DEFINITION. The host request of a cycle (R246), and the joining of the host's and the engine's writes at the edge
(R245). -/

namespace Sys2Proof.Machine

/-- The host request of `Tick` (R246): the word on the port, decoded and run; without a request `h_rdata` is 0 (R61). -/
def hostPart (s : State) : Host.Outcome State Fault Refusal :=
  if s.cur.hSel then
    match decode (.h s.cur.hostWord) with
    | .ok i => exec i s
    | .error e => .refused (.reservedCode e)
  else .next s.noReadData

/-- The engine has no step in this state (R246). -/
def Seq.engineIdle : Seq → Bool
  | .idle | .fault => true
  | _ => false

/-- Both agents read the state `s` before the edge and write at the edge (R245): `h` is what the host's request makes of
it, `e` what the engine's step makes of it. The engine never writes the descriptor, `TXBUF` or the read data; a host request
writes nothing else, GO apart, and GO acts only where the engine step is empty (R172, R245, R77). -/
def joinWrites (s h e : State) : State :=
  if s.seq.engineIdle then h
  else
    { e with
      cfg := h.cfg
      addr := h.addr
      wlen := h.wlen
      rlen := h.rlen
      retry := h.retry
      wait := h.wait
      qdelay := h.qdelay
      txbuf := h.txbuf
      hRdata := h.hRdata }

/-- A cycle without reset (R246). -/
def cycleBody (s : State) : Host.Outcome State Fault Refusal :=
  andThen (hostPart s) fun h => andThen (engineStep s) fun e => .next (joinWrites s h e).closeCycle

/-- The inputs that a fetched word finds in its cycle: those already given for it, else a released SDA and no line failure. -/
def State.givenInput (s : State) : CycleIn :=
  s.ins.headD
    { rst := false, hSel := false, hWe := false, hIdx := 0, hWdata := 0, sdaI := true, ioRdErr := false, ioWrErr := false }

/-- Make the next cycle one without reset and without host request. -/
def State.quietCycle (s : State) : State :=
  { s with ins := { s.givenInput with rst := false, hSel := false } :: s.ins.tail }

/-- Make the next cycle one in which the host port carries `req`. -/
def State.withHostWord (s : State) (req : BitVec 43) : State :=
  { s with
    ins :=
      { s.givenInput with
        rst := false
        hSel := true
        hWe := req.getLsbD 42
        hIdx := req.extractLsb' 32 10
        hWdata := req.extractLsb' 0 32 } :: s.ins.tail }

/-- Point the engine at step `u` of byte command `b`, run by sequencer state `q`, its delay elapsed. -/
def State.atStep (s : State) (q : Seq) (b : Bop) (u : BitVec 6) : State :=
  { s.quietCycle with seq := q, bop := b, ustep := u, dly := 0, busy := true }

/-- Make the next cycle's line op the one with code `lop`: the pc is put on a step of a byte command that holds it. -/
def State.withLineWord (s : State) (lop : BitVec 3) : State :=
  if lop = Lop.sclLo then s.atStep .wStart .start 0
  else if lop = Lop.sclHi then s.atStep .init .init 1
  else if lop = Lop.sdaLo then s.atStep .wStop .stop 1
  else if lop = Lop.sdaHi then s.atStep .init .init 0
  else if lop = Lop.sdaRd then s.atStep .wAddr .out 34
  else s

/-- Make the next cycle's completion step start the byte command with word `bcmd`: the sequencer is put at the end of a
state whose successor runs it, with the descriptor that makes it so. `B_INIT` is started by GO alone, so for it the host
port carries GO and the descriptor is legal. -/
def State.withByteWord (s : State) (bcmd : BitVec 12) : State :=
  match decodeByte bcmd with
  | .ok .bInit =>
    { s.withHostWord 0x40000000001#43 with
      seq := .idle, busy := false, fault := false, cfg := 0, wlen := 0, rlen := 0, retry := 0 }
  | .ok .bStart => s.atStep .init .init 2
  | .ok .bStop => { s.atStep .wAddr .out 36 with ack := true, wlen := 0 }
  | .ok (.bOut data) =>
    { s.atStep .wAddr .out 36 with
      ack := true, wlen := 2, txbuf := Memory.write s.txbuf s.first data }
  | .ok (.bIn last) => { s.atStep .rAddr .out 36 with ack := true, rlen := if last then 1 else 2 }
  | _ => s

/-- The interface word stored where the next step takes it from. -/
def State.withCodeWord (s : State) : CodeWord → State
  | .l lop => s.withLineWord lop
  | .b bcmd => s.withByteWord bcmd
  | .h req => s.withHostWord req

end Sys2Proof.Machine
end

