-- ==== Sys2Proof/Machine/Step.lean ====
section
/-! DEFINITION. `Tick` (R246): one step is one clock cycle. -/

namespace Sys2Proof.Machine

/-- `Tick` (R246): `rst = 1` overrides everything (R240); else the host request and the engine step of the cycle. -/
def step (s : State) : Host.Outcome State Fault Refusal :=
  if s.cur.rst then .next s.restart else cycleBody s

/-- `s` with the operation of `nbits` bits `w` placed where the next step takes it from (log 6). A word that stands for no
operation changes nothing. -/
def State.withFetchWord (s : State) (nbits w : Nat) : State :=
  match codeWordOf nbits w with
  | .ok c => s.withCodeWord c
  | .error _ => s

end Sys2Proof.Machine
end

