-- ==== Sys2Proof/Machine/HostProgram.lean ====
section
/-! DEFINITION. Host programs (R103, R104): lists of lines, one request per cycle, the pseudo-operations that expand to
them, and their runs. -/

namespace Sys2Proof.Machine

/-- The cycle in which the host makes the request of a host port operation, all other inputs being `env`'s (R61, R95). An
operation of another format makes no request. -/
def hostCycle (i : Instr) (env : CycleIn) : CycleIn :=
  match encode i with
  | .h req =>
    { env with
      hSel := true
      hWe := req.getLsbD 42
      hIdx := req.extractLsb' 32 10
      hWdata := req.extractLsb' 0 32 }
  | _ => { env with hSel := false }

/-- A line of a host program (R103). -/
inductive HostLine where
  /-- `W idx, value` or `R idx`: one request, one cycle. -/
  | request (i : Instr)
  /-- `WAITDONE`: `R 0x008` repeated until bit 1 of the value read is set. -/
  | waitDone
  deriving DecidableEq, Repr

/-- The request a line makes in each cycle it takes (R103, R104). -/
def HostLine.instr : HostLine → Instr
  | .request i => i
  | .waitDone => .hread 0x008#10

/-- The value read in the cycle just ended had bit 1, `STATUS.DONE`, set (R40, R103). -/
def State.polledDone (s : State) : Bool := s.hRdata.getLsbD 1

/-- A line is over at the end of a cycle that leads to `t` (R103): a request always is, `WAITDONE` when its read had bit 1
set. -/
def HostLine.over : HostLine → State → Bool
  | .request _, _ => true
  | .waitDone, t => t.polledDone

/-- The pseudo-operations of R104. -/
inductive Pseudo where
  /-- `XFER addr, [w0..wn-1], rlen`. -/
  | xfer (addr : Reg) (ws : List Byte) (rlen : Reg)
  /-- `XFER_AIP [b0, w0..wn-1], rlen`; `cfg` is what `CFG` holds. -/
  | xferAip (cfg : Reg) (b0 : Byte) (ws : List Byte) (rlen : Reg)
  /-- `WRITE addr, [w..]`. -/
  | write (addr : Reg) (ws : List Byte)
  /-- `PROBE addr`. -/
  | probe (addr : Reg)
  /-- `WAITDONE`. -/
  | waitDone
  deriving DecidableEq, Repr

/-- `W idx, v`, one line. -/
def writeLine (idx : HostIdx) (v : Reg) : HostLine := .request (.hwrite idx v)

/-- `W 0x100+k, wk` for the bytes of a list, from index `0x100 + k` on (R104). The index has the 10 bits of `h_idx` (R61): for
`k` of 768 or more, which no `TXBUF` has, its high bits are dropped. DESIGN CHOICE, log 21. -/
def writeBytes : Nat → List Byte → List HostLine
  | _, [] => []
  | k, w :: ws => writeLine (BitVec.ofNat 10 (0x100 + k)) (w.setWidth 32) :: writeBytes (k + 1) ws

/-- `W 0x003, n`; `W 0x004, rlen`; `W 0x000, 1`: the lines that end both forms of `XFER` (R104). -/
def goLines (n : Nat) (rlen : Reg) : List HostLine :=
  [writeLine 0x003#10 (BitVec.ofNat 32 n), writeLine 0x004#10 rlen, .request .transaction]

/-- The expansion of `XFER` (R104). -/
def expandXfer (addr : Reg) (ws : List Byte) (rlen : Reg) : List HostLine :=
  [writeLine 0x002#10 addr] ++ writeBytes 0 ws ++ goLines ws.length rlen

/-- The expansions of R104, one per row of its table. -/
def Pseudo.expand : Pseudo → List HostLine
  | .xfer addr ws rlen => expandXfer addr ws rlen
  | .xferAip cfg b0 ws rlen =>
    [writeLine 0x001#10 (cfg ||| 8#32), writeLine 0x100#10 (b0.setWidth 32)] ++ writeBytes 1 ws
      ++ goLines (ws.length + 1) rlen
  | .write addr ws => expandXfer addr ws 0
  | .probe addr => expandXfer addr [] 0
  | .waitDone => [.waitDone]

/-- `s` with the host's side of the present cycle set: the request of the program's first line, none when the program is
over. The other inputs of the cycle stay. -/
def State.withPort (s : State) : List HostLine → State
  | [] => { s with ins := { s.cur with hSel := false } :: s.ins.tail }
  | line :: _ => { s with ins := hostCycle line.instr s.cur :: s.ins.tail }

/-- The lines left after a cycle that leads to `t` (R103). -/
def linesLeft (t : State) : List HostLine → List HostLine
  | [] => []
  | line :: rest => if line.over t then rest else line :: rest

/-- `n` cycles of the block with a host that runs a program (R103): what is left of the program, and the state. -/
def runProgram : Nat → List HostLine → State → Host.Outcome (List HostLine × State) Fault Refusal
  | 0, prog, s => .next (prog, s)
  | n + 1, prog, s =>
    match step (s.withPort prog) with
    | .next t => runProgram n (linesLeft t prog) t
    | .fault r => .fault r
    | .refused r => .refused r

end Sys2Proof.Machine
end

