-- ==== Sys2Proof/WellFormed.lean ====
section
/-! DEFINITION. Well-formed operations and parameters. -/

namespace Sys2Proof

/-- An operation is well formed when it is the one spelling of its encoding. The write of index 0 (`CMD`) with bit 0 set
is the row `TRANSACTION`, which matches before `HWRITE` (R95 and the table's note), so that `HWRITE` is not one. -/
def Instr.wf : Instr → Bool
  | .hwrite idx v => !(idx == 0#10 && v.getLsbD 0)
  | _ => true

/-- Every parameter is in the range R5 gives it. Outside it nothing is claimed (U13). -/
def Params.wf (p : Params) : Bool :=
  decide (1 ≤ p.clkPerUs) && decide (1 ≤ p.defaultRetryWaitUs)
    && (decide (1 ≤ p.txDepth) && decide (p.txDepth ≤ 256))
    && (decide (1 ≤ p.rxDepth) && decide (p.rxDepth ≤ 256))
    && decide (p.retryMax ≤ 65535)

end Sys2Proof
end

