-- ==== Sys2Proof/Safety.lean ====
section
/-! DEFINITION. What counts as a safe state and a safe step: the levels on the lines, the START and STOP conditions at the
pads, and the invariant of the reachable states. -/

namespace Sys2Proof.Machine

/-! ### Levels (R21, R23, R153) -/

/-- The block's own SCL is high: released, or driven high (R153). -/
def State.sclHigh (s : State) : Prop := s.sclDir = .inp ∨ s.sclVal = true

/-- The block's own SCL is low: driven low (R153). -/
def State.sclLow (s : State) : Prop := s.sclDir = .out ∧ s.sclVal = false

/-- The SDA wire (R23), when another party drives it low or not. -/
def State.sdaWire (s : State) (otherLow : Bool) : Bool := decide (s.sdaDir = .inp) && !otherLow

/-- The SCL wire (R23), when another party holds it low or not. -/
def State.sclWire (s : State) (otherLow : Bool) : Bool :=
  match s.sclDir with
  | .out => s.sclVal
  | .inp => !otherLow

/-- A START condition at the pads (R12): SDA falls while SCL stays high. -/
def padStart (s t : State) : Prop := s.sclHigh ∧ t.sclHigh ∧ s.sdaDir = .inp ∧ t.sdaDir = .out

/-- A STOP condition at the pads (R12): SDA rises while SCL stays high. -/
def padStop (s t : State) : Prop := s.sclHigh ∧ t.sclHigh ∧ s.sdaDir = .out ∧ t.sdaDir = .inp

/-- A set op executes in this cycle and its line write fails (R128). -/
def State.writeFails (s : State) : Bool := s.atLineOp && s.uopAborts

/-! ### The invariant -/

/-- Buffers in canonical form and inside their depths (R45, R76). -/
structure BufferInv (s : State) : Prop where
  par : s.par.wf = true
  txForm : Memory.wf s.txbuf
  rxForm : Memory.wf s.rxbuf
  txInside : ∀ c ∈ s.txbuf, c.1 < s.par.txDepth
  rxInside : ∀ c ∈ s.rxbuf, c.1 < s.par.rxDepth

/-- The pc, the flags and the timers agree (R28, R29, R30, R40). -/
structure ControlInv (s : State) : Prop where
  busyIff : s.busy = true ↔ s.seq ≠ .idle ∧ s.seq ≠ .fault
  faultIff : s.fault = true ↔ s.seq = .fault
  doneIdle : s.done = true → s.busy = false
  faultDone : s.fault = true → s.done = true ∧ s.ok = false ∧ s.failCode = .lineWr
  okDone : s.ok = true → s.done = true ∧ s.failCode = .none
  command : ∀ b, s.seq.command = some b → s.bop = b ∧ s.ustep.toNat ≤ b.len
  noCommand : s.seq.command = none → s.dly = 0 ∧ (s.seq ≠ .fault → s.ustep = 0)
  dlyBound : s.dly.toNat ≤ 131070
  wcntBound : s.wcnt < 2 ^ s.par.wcntWidth

/-- The sequencer state belongs to the read phase (R28). -/
def Seq.readPhase : Seq → Bool
  | .preWait | .rStart | .rAddr | .rnStop | .retryWait | .rData | .rStop => true
  | _ => false

/-- A running transaction's descriptor is legal and its counters inside it (R26, R76, R172), and the byte in progress is
the one the sequencer state names (R173). -/
structure DescriptorInv (s : State) : Prop where
  legal : s.busy = true → s.badDescriptor = false
  widxInside : s.seq = .wData → s.first ≤ s.widx.toNat ∧ s.widx.toNat < s.wlen.toNat
  ridxInside : s.seq = .rData → s.ridx.toNat < s.rlen.toNat
  reading : s.seq.readPhase = true → 1 ≤ s.rlen.toNat
  triesInside : s.busy = true → s.tries.toNat ≤ s.retry.toNat
  received : s.seq = .rData → s.rxcnt = s.ridx
  notReceived : s.busy = true → s.seq ≠ .rData → s.seq ≠ .rStop → s.rxcnt = 0
  allReceived : s.seq = .rStop → s.rxcnt.toNat = s.rlen.toNat
  lastByte : s.seq = .rData → s.blast = decide (s.ridx.toNat + 1 = s.rlen.toNat)
  sentWAddr : s.seq = .wAddr → s.bdata = addressByte s.a7 false
  sentWData : s.seq = .wData → s.bdata = s.txByte s.widx.toNat
  sentRAddr : s.seq = .rAddr → s.bdata = addressByte s.a7 true
  noFailure : s.busy = true → s.seq ≠ .abStop → s.failCode = .none

/-- The lines before step `u` of `B_START` (R145). -/
def startLines (s : State) (u : Nat) : Prop :=
  (u = 0 → s.sclHigh ∧ s.sdaDir = .inp ∧ s.startOpen = false)
    ∧ ((u = 1 ∨ u = 2) → s.sclLow ∧ s.sdaDir = .inp ∧ s.startOpen = false)
    ∧ (u = 3 → s.sclHigh ∧ s.sdaDir = .inp ∧ s.startOpen = false)
    ∧ (u = 4 → s.sclHigh ∧ s.sdaDir = .out ∧ s.startOpen = true)

/-- The lines before step `u` of `B_STOP` (R146). -/
def stopLines (s : State) (u : Nat) : Prop :=
  ((u = 0 ∨ u = 1) → s.sclLow ∧ s.sdaDir = .inp ∧ s.startOpen = true)
    ∧ (u = 2 → s.sclLow ∧ s.sdaDir = .out ∧ s.startOpen = true)
    ∧ (u = 3 → s.sclHigh ∧ s.sdaDir = .out ∧ s.startOpen = true)
    ∧ (u = 4 → s.sclHigh ∧ s.sdaDir = .inp ∧ s.startOpen = false)

/-- The direction of SDA that sends a level: 1 by release, 0 by driving low (R147). -/
def levelDir (level : Bool) : Dir := if level then .inp else .out

/-- The lines before step `u` of `B_OUT` (R147, R148). Before step 0 of the address byte, which follows a `B_START`, SCL is
high and SDA driven low, as R145 and R153 leave them (R141, V44). R144 says in passing that `B_OUT` is started with SCL low
after `B_START`; it is not followed there. DESIGN CHOICE, log 19. -/
def outLines (s : State) (u : Nat) : Prop :=
  s.startOpen = true
    ∧ (u = 0 → (s.seq = .wData → s.sclLow ∧ s.sdaDir = .inp) ∧ (s.seq ≠ .wData → s.sclHigh ∧ s.sdaDir = .out))
    ∧ (1 ≤ u → u ≤ 31 → u % 4 = 3 → s.sclHigh)
    ∧ (1 ≤ u → u ≤ 32 → u % 4 ≠ 3 → s.sclLow)
    ∧ (1 ≤ u → u ≤ 31 → 2 ≤ u % 4 → s.sdaDir = levelDir (s.bdata.getLsbD (7 - u / 4)))
    ∧ (u = 33 → s.sclLow ∧ s.sdaDir = .inp)
    ∧ ((u = 34 ∨ u = 35) → s.sclHigh ∧ s.sdaDir = .inp)
    ∧ (u = 36 → s.sclLow ∧ s.sdaDir = .inp)

/-- The lines before step `u` of `B_IN` (R150, R151). -/
def inLines (s : State) (u : Nat) : Prop :=
  s.startOpen = true
    ∧ (u = 0 → s.sclLow)
    ∧ (1 ≤ u → u ≤ 25 → s.sdaDir = .inp)
    ∧ (1 ≤ u → u ≤ 25 → u % 3 = 1 → s.sclLow)
    ∧ (1 ≤ u → u ≤ 24 → u % 3 ≠ 1 → s.sclHigh)
    ∧ (u = 26 → s.sclLow)
    ∧ (u = 27 → s.sclHigh)
    ∧ (u = 28 → s.sclLow)
    ∧ (26 ≤ u → s.sdaDir = levelDir s.blast)

/-- The lines and `START_OPEN` at every point of a transaction (R153, R154, R192). -/
def LineInv (s : State) : Prop :=
  match s.seq.command with
  | none => s.sclHigh ∧ s.sdaDir = .inp ∧ (s.seq ≠ .fault → s.startOpen = false)
  | some .init => s.sclHigh ∧ s.sdaDir = .inp ∧ s.startOpen = false
  | some .start => startLines s s.ustep.toNat
  | some .stop => stopLines s s.ustep.toNat
  | some .out => outLines s s.ustep.toNat
  | some .inp => inLines s s.ustep.toNat

/-- The invariant of the reachable states. -/
structure Inv (s : State) : Prop where
  buffers : BufferInv s
  control : ControlInv s
  descriptor : DescriptorInv s
  lines : LineInv s

/-! ### Runs and their inputs (R8, R246, R258) -/

/-- `n` cycles of the machine. -/
def run (n : Nat) (s : State) : Host.Outcome State Fault Refusal := Host.Core.run Sys2Proof.core n s

/-- `Q'` (R122): the cycles of one call of the delay primitive. -/
def State.quarter (s : State) : Nat := if s.cfg.getLsbD 1 then 0 else s.qdelay.toNat

/-- `D = 1 + 2 * Q'` (R249): the cycles of a set op. -/
def State.opCycles (s : State) : Nat := 1 + 2 * s.quarter

/-- No reset in the next `n` cycles. -/
def State.noResetFor (s : State) (n : Nat) : Prop := ∀ k < n, (s.inputAt k).rst = false

/-- No reset and no failing line write in the next `n` cycles. -/
def State.quietFor (s : State) (n : Nat) : Prop :=
  ∀ k < n, (s.inputAt k).rst = false ∧ (s.inputAt k).ioWrErr = false

/-- The level an `SDA_RD` executed `k` cycles ahead delivers (R127). -/
def State.sampleAt (s : State) (k : Nat) : Bool := (s.inputAt k).ioRdErr || (s.inputAt k).sdaI

/-- Eight samples assembled, the first most significant (R99). -/
def byteOf (f : Nat → Bool) : Byte :=
  BitVec.ofBool (f 0) ++ (BitVec.ofBool (f 1) ++ (BitVec.ofBool (f 2) ++ (BitVec.ofBool (f 3) ++
    (BitVec.ofBool (f 4) ++ (BitVec.ofBool (f 5) ++ (BitVec.ofBool (f 6) ++ BitVec.ofBool (f 7)))))))

/-- `s`, `n` cycles later, with `x` on `h_rdata`: nothing but the clock has moved. -/
def State.later (s : State) (n : Nat) (x : Reg) : State :=
  { s with hRdata := x, ins := s.ins.drop n, cycle := s.cycle + n }

/-- What `h_rdata` drives in this cycle (R61). -/
def State.portData (s : State) : Reg := if s.cur.hSel && !s.cur.hWe then s.hostRead s.cur.hIdx else 0

/-- The state after a busy cycle in which the engine makes `e` of `s`: the host's request of the cycle moves `h_rdata`
alone (R65). -/
def State.endCycle (s e : State) : State :=
  { e with hRdata := s.portData, ins := s.ins.tail, cycle := s.cycle + 1 }

/-- The line op executed in this cycle, with the value it returned if it is an `SDA_RD` (R127, R258). A set op whose line write
fails is not executed: `FatalAbort` is taken instead of it (R128, R220, V39b). -/
def State.opRecord (s : State) : List (BitVec 3 × Option Bool) :=
  if s.cur.rst = false ∧ s.atLineOp = true ∧ s.uopAborts = false then
    [(s.lop, if s.lop = Lop.sdaRd then some (s.sampleAt 0) else none)] else []

/-- The line ops executed in the next `n` cycles, in order, with the values the `SDA_RD` ops returned (R258). -/
def transcript : Nat → State → List (BitVec 3 × Option Bool)
  | 0, _ => []
  | n + 1, s =>
    s.opRecord
      ++ (match step s with
          | .next t => transcript n t
          | .fault _ => []
          | .refused _ => [])

/-- The line ops executed in the next `n` cycles, in order (R9). -/
def lineOpTrace (n : Nat) (s : State) : List (BitVec 3) := (transcript n s).map Prod.fst

/-- Set ops and reads of a byte command (R249). -/
def Bop.setOps : Bop → Nat
  | .init => 2
  | .start => 4
  | .stop => 4
  | .out => 35
  | .inp => 20

/-- See `Bop.setOps`. -/
def Bop.reads : Bop → Nat
  | .init => 0
  | .start => 0
  | .stop => 0
  | .out => 1
  | .inp => 8

/-- The cycles of a byte command before its completion cycle (R249). -/
def State.commandCycles (s : State) (b : Bop) : Nat := b.setOps * s.opCycles + b.reads

/-! ### What happens in a cycle -/

/-- A set op executes in this cycle. -/
def State.setsLine (s : State) : Bool := s.atLineOp && !s.lop.getLsbD 2

/-- An `SDA_RD` executes in this cycle. -/
def State.readsLine (s : State) : Bool := s.atLineOp && s.lop.getLsbD 2

/-- A byte command's completion step is due in this cycle (R174). -/
def State.completing (s : State) : Bool := s.seq.command.isSome && s.dly == 0 && decide (s.bop.len ≤ s.ustep.toNat)

/-- The completion step of sequencer state `q` is due, in a busy cycle without reset (R174). -/
def State.completes (s : State) (q : Seq) : Prop :=
  s.seq = q ∧ s.dly = 0 ∧ s.ustep.toNat = s.bop.len ∧ s.busy = true ∧ s.cur.rst = false

/-- The completion step of this cycle ends the transaction (R179, R180, R185, R188). -/
def State.finishes (s : State) : Bool :=
  s.completing && (s.seq == .abStop || s.seq == .rStop || (s.seq == .wStop && s.rlen == 0)
    || (s.seq == .rnStop && s.tries == s.retry))

/-- A GO is accepted in this cycle (R12, R65, R172), whether its descriptor is legal or not. -/
def State.acceptsGo (s : State) : Bool :=
  s.cur.hSel && s.cur.hWe && s.cur.hIdx == 0#10 && s.cur.hWdata.getLsbD 0 && !s.busy && s.seq == .idle && !s.fault

/-- The host's side of the state: the descriptor registers and `TXBUF` (R12). -/
def sameDescriptor (s t : State) : Prop :=
  t.cfg = s.cfg ∧ t.addr = s.addr ∧ t.wlen = s.wlen ∧ t.rlen = s.rlen ∧ t.retry = s.retry ∧ t.wait = s.wait
    ∧ t.qdelay = s.qdelay ∧ t.txbuf = s.txbuf

/-! ### Transactions (R258) -/

/-- The result of a transaction, read in the state at its end (R258). -/
structure TransactionResult where
  /-- `STATUS.OK`. -/
  ok : Bool
  /-- `STATUS.FAIL_CODE`. -/
  failCode : FailCode
  /-- `STATUS.NAK_SEEN`. -/
  nakSeen : Bool
  /-- `STATUS.RDERR_SEEN`. -/
  rderrSeen : Bool
  /-- `STATUS.FAULT`. -/
  fault : Bool
  /-- `RESULT`. -/
  result : Reg
  /-- `DIAG`. -/
  diag : Reg
  /-- `RXBUF[0 .. RXCNT-1]`. -/
  received : List Byte
  deriving DecidableEq, Repr

/-- The result tuple of R258 as a state holds it. -/
def State.transactionResult (s : State) : TransactionResult where
  ok := s.ok
  failCode := s.failCode
  nakSeen := s.nakSeen
  rderrSeen := s.rderrSeen
  fault := s.fault
  result := s.resultWord
  diag := s.diagWord
  received := (List.range s.rxcnt.toNat).map s.rxByte

/-- A transaction (R258): the GO accepted in the cycle of `g` begins it, and `e`, `n` cycles later, is the first state after
that cycle with `DONE = 1`. No reset comes between them. -/
structure TransactionFrom (g e : State) (n : Nat) : Prop where
  accepted : g.acceptsGo = true
  later : 0 < n
  noReset : g.noResetFor n
  ends : run n g = .next e
  done : e.done = true
  notBefore : ∀ k, 0 < k → k < n → ∃ t, run k g = .next t ∧ t.done = false

/-- The trace of a transaction that begins in the cycle of `g` and ends `n` cycles later (R258): the line ops of the cycles
after the GO's and before the end's, with the values the `SDA_RD` ops returned. -/
def transactionTrace (g : State) (n : Nat) : List (BitVec 3 × Option Bool) :=
  match step g with
  | .next t => transcript (n - 1) t
  | .fault _ => []
  | .refused _ => []

/-- What the host and the pads can see of a transaction: lines, `STATUS`, the result tuple (R258) and the bytes of `RXBUF`. -/
def sameView (s t : State) : Prop :=
  t.sclDir = s.sclDir ∧ t.sclVal = s.sclVal ∧ t.sdaDir = s.sdaDir ∧ t.statusWord = s.statusWord
    ∧ t.transactionResult = s.transactionResult ∧ ∀ i, t.rxByte i = s.rxByte i

/-- The transitions of `seq` that a completion step or the end of a wait may take (R196). -/
def seqEdge (s : State) (q : Seq) : Prop :=
  let nak := s.ack = false ∧ s.cfg.getLsbD 2 = false
  match s.seq with
  | .idle => q = .init ∧ s.acceptsGo = true ∧ s.badDescriptor = false
  | .init => q = .wStart
  | .wStart => q = .wAddr
  | .wAddr =>
    (nak ∧ q = .abStop) ∨ (¬ nak ∧ s.first < s.wlen.toNat ∧ q = .wData) ∨ (¬ nak ∧ s.wlen.toNat ≤ s.first ∧ q = .wStop)
  | .wData => (nak ∧ q = .abStop) ∨ (¬ nak ∧ s.wlen.toNat ≤ s.widx.toNat + 1 ∧ q = .wStop)
  | .wStop => (s.rlen = 0 ∧ q = .idle) ∨ (s.rlen ≠ 0 ∧ q = .preWait)
  | .abStop => q = .idle
  | .preWait => s.wcnt = 0 ∧ q = .rStart
  | .rStart => q = .rAddr
  | .rAddr => (s.ack = true ∧ q = .rData) ∨ (s.ack = false ∧ q = .rnStop)
  | .rnStop => (s.tries = s.retry ∧ q = .idle) ∨ (s.tries ≠ s.retry ∧ q = .retryWait)
  | .retryWait => s.wcnt = 0 ∧ q = .rStart
  | .rData => s.rlen.toNat ≤ s.ridx.toNat + 1 ∧ q = .rStop
  | .rStop => q = .idle
  | .fault => False

/-! ### Issuing a byte command -/

/-- The state `i` is executed in when a cycle of `p` issues the byte command `i` that `withByteWord` placed (log 6): the
argument GO gives `B_INIT` (R172) and `enter(q, n)`, called by the completion step that runs in `p`, gives the others: the
completion's own writes (R176, R177, R184), then the pc at `(q, 0)` (R173). A line op or a host request is executed in `p`. -/
def State.issuedFrom (p : State) : Instr → State
  | .bInit => ({ p.noReadData.clearResults with busy := true, a7 := p.noReadData.slaveAddr } : State).setPc .init 0
  | .bStart => p.setPc .wStart 0
  | .bStop => p.noteNak.setPc .wStop 0
  | .bOut _ => ({ p.noteNak with widx := BitVec.ofNat 9 p.first } : State).setPc .wData 0
  | .bIn _ => ({ p with ridx := 0 } : State).setPc .rData 0
  | .sclLo | .sclHi | .sdaLo | .sdaHi | .sdaRd | .hread _ | .hwrite _ _ | .transaction => p

/-! ### Reset and descriptors -/

/-- The reset values of R47. -/
def ResetValues (s : State) : Prop :=
  (s.sclDir = .inp ∧ s.sdaDir = .inp ∧ s.sclVal = false ∧ s.sdaVal = false)
    ∧ (s.seq = .idle ∧ s.ustep = 0 ∧ s.dly = 0 ∧ s.wcnt = 0)
    ∧ (s.bop.code = 0 ∧ s.bdata = 0 ∧ s.blast = false ∧ s.ack = false ∧ s.a7 = 0 ∧ s.widx = 0 ∧ s.ridx = 0 ∧ s.tries = 0)
    ∧ (s.cfg = 0 ∧ s.addr = 0 ∧ s.wlen = 0 ∧ s.rlen = 0 ∧ s.retry = 0 ∧ s.wait = 0 ∧ s.qdelay = s.par.qdelayReset)
    ∧ (s.busy = false ∧ s.done = false ∧ s.ok = false ∧ s.nakSeen = false ∧ s.rderrSeen = false ∧ s.fault = false
        ∧ s.startOpen = false ∧ s.failCode.code = 0)
    ∧ (s.rxcnt = 0 ∧ s.failIndex = 0 ∧ s.failByte = 0)
    ∧ (∀ i, s.txByte i = Config.freeTxByte s.epoch i ∧ s.rxByte i = Config.freeRxByte s.epoch i)
    ∧ s.outputs = { sclOe := false, sclO := false, sdaOe := false, sdaO := false, busy := false, done := false }

/-- `t` describes in embedded-address mode the transaction that `s` describes with `ADDR` (R195): `TXBUF[0]` carries the
address in its top seven bits, the payload follows it. All else is equal. -/
structure AipPair (s t : State) : Prop where
  explicitMode : s.cfg.getLsbD 3 = false
  fits : s.wlen.toNat < s.par.txDepth
  rest : t = { s with cfg := s.cfg ||| 8#4, addr := t.addr, wlen := s.wlen + 1, txbuf := t.txbuf }
  address : (t.txByte 0).extractLsb' 1 7 = s.addr
  payload : ∀ i < s.wlen.toNat, t.txByte (i + 1) = s.txByte i

/-- Idle, not faulted, not busy, no delay running (as the invariant has it of an idle block): a GO is not ignored (R172). -/
def State.ready (s : State) : Prop := s.seq = .idle ∧ s.fault = false ∧ s.busy = false ∧ s.dly = 0

/-- The cycles a write phase without failure takes with `n` payload bytes (R250). -/
def State.writeCycles (s : State) (n : Nat) : Nat :=
  (2 * s.opCycles + 1) + (4 * s.opCycles + 1) + (1 + n) * (35 * s.opCycles + 2) + (4 * s.opCycles + 1)

/-- The cycles a read phase without retries takes with `m` bytes, the wait before it included (R250). -/
def State.readCycles (s : State) (m : Nat) : Nat :=
  (s.wait.toNat * s.par.clkPerUs + 1) + (4 * s.opCycles + 1) + (35 * s.opCycles + 2) + m * (20 * s.opCycles + 9)
    + (4 * s.opCycles + 1)

end Sys2Proof.Machine
end

