-- ==== Sys2Proof/Certificates/Slice0/Obligations.lean ====
section
/-! DEFINITION. The statements for the provers, one `def Obligations.<Name> : Prop` each. They quantify over every state,
so over every choice of the parameters (R5) and of the inputs (R11), unless a hypothesis says otherwise. -/

open Sys2Proof Sys2Proof.Machine

/-! ### Reset (R47, R240) -/

/-- R47: the machine right after reset holds the table's values. That an unspecified byte of the buffers (R241) is a free
value of its index and of the count of resets is the model's choice, log 4. -/
def Obligations.ResetStateHoldsTheTable : Prop := ResetValues State.reset

/-- R240: a cycle with `rst = 1` ends in the reset state, whatever the state and the other inputs were; `h_rdata` is 0. The
buffers are unspecified anew (R241); that this is free values of a count of resets gone up by one is the model's choice,
log 4. -/
def Obligations.ResetInputOverridesEverything : Prop :=
  ∀ s : State, s.cur.rst = true →
    ∃ t, step s = .next t ∧ ResetValues t ∧ t.hRdata = 0 ∧ t.par = s.par ∧ t.epoch = s.epoch + 1

/-! ### The step (R246) -/

/-- R246: the step is total; no state and no input stops the block. No step changes a parameter (R5). -/
def Obligations.StepAlwaysAnswersNext : Prop := ∀ s : State, ∃ t, step s = .next t ∧ t.par = s.par

/-- With the engine at rest, a cycle runs the operation the decoder reads from the host port, and the clock moves; without
a request `h_rdata` is 0 (R61, R246). -/
def Obligations.RestingCycleRunsTheHostRequest : Prop :=
  ∀ s : State, s.cur.rst = false → s.seq = .idle ∨ s.seq = .fault →
    (s.cur.hSel = true →
      ∃ i t, decode (.h s.cur.hostWord) = .ok i ∧ exec i s = .next t ∧ step s = .next t.closeCycle)
    ∧ (s.cur.hSel = false → step s = .next ({ s with hRdata := 0 } : State).closeCycle)

/-- R142: in a cycle whose pc names a line op, the step runs the operation decoded from its code; unless that was a fatal
abort, `START_OPEN` changes at step 3 of `B_START` and `B_STOP` and `ustep` advances by one. -/
def Obligations.LineOpCycleRunsTheDecodedOperation : Prop :=
  ∀ s : State, s.cur.rst = false → s.busy = true → s.atLineOp = true →
    ∃ i t, decode (.l (uop s.bop s.ustep.toNat s.bdata s.blast)) = .ok i ∧ exec i s = .next t ∧
      step s = .next (s.endCycle
        (if i ≠ .sdaRd ∧ s.cur.ioWrErr = true then t
          else { t with
            startOpen :=
              if s.bop = .start ∧ s.ustep = 3 then true else if s.bop = .stop ∧ s.ustep = 3 then false else s.startOpen
            ustep := s.ustep + 1 }))

/-- R173: `enter(q, n)` sets the pc to `(q, 0)`; in a state that runs a byte command it runs the operation decoded from the
command word, which loads `bop`, `bdata` and `blast`; in a wait state it loads `wcnt` with the exact product. -/
def Obligations.EnterRunsTheStatesCommand : Prop :=
  ∀ (s : State) (n : BitVec 9),
    let start (q : Seq) (i : Instr) (w : BitVec 12) (b : Bop) (data : Byte) (last : Bool) : Prop :=
      s.bcmdFor q n = some w ∧ decode (.b w) = .ok i ∧ enter q n s = exec i (s.setPc q 0) ∧
        enter q n s = .next { s with seq := q, ustep := 0, bop := b, bdata := data, blast := last }
    start .init .bInit 0x000#12 .init 0 false
      ∧ start .wStart .bStart 0x200#12 .start 0 false ∧ start .rStart .bStart 0x200#12 .start 0 false
      ∧ start .wAddr (.bOut (s.a7 ++ 0#1)) (0x6#4 ++ (s.a7 ++ 0#1)) .out (s.a7 ++ 0#1) false
      ∧ start .wData (.bOut (s.txByte n.toNat)) (0x6#4 ++ s.txByte n.toNat) .out (s.txByte n.toNat) false
      ∧ start .rAddr (.bOut (s.a7 ++ 1#1)) (0x6#4 ++ (s.a7 ++ 1#1)) .out (s.a7 ++ 1#1) false
      ∧ (∀ last, last = decide (n.toNat + 1 = s.rlen.toNat) →
          start .rData (.bIn last) (if last then 0x900#12 else 0x800#12) .inp 0 last)
      ∧ (∀ q, q = .wStop ∨ q = .rnStop ∨ q = .rStop ∨ q = .abStop → start q .bStop 0x400#12 .stop 0 false)
      ∧ enter .preWait n s = .next { s with seq := .preWait, ustep := 0, wcnt := s.wait.toNat * s.par.clkPerUs }
      ∧ enter .retryWait n s = .next { s with
          seq := .retryWait
          ustep := 0
          wcnt := (if s.wait ≠ 0 then s.wait.toNat else s.par.defaultRetryWaitUs) * s.par.clkPerUs }

/-- Placing a word where the next step takes its operation from (log 6): the next step then runs the operation the decoder
reads from it, and what the step adds around it is stated: the clock; for a line op the byte engine's own writes; for a byte
command the state it is issued from (`State.issuedFrom`), which names every write of the cycle beside the operation's. -/
def Obligations.PlacedWordIsTheNextOperation : Prop :=
  ∀ (s : State) (nbits w : Nat) (i : Instr), decodeTableWord nbits w = some i →
    let p := s.withFetchWord nbits w
    match i.format with
    | .host => s.seq = .idle ∨ s.seq = .fault → ∃ t, exec i p = .next t ∧ step p = .next t.closeCycle
    | .line => ∃ t, exec i p = .next t ∧ step p = .next (p.endCycle (if p.uopAborts then t else t.afterUop))
    | .byte => ∃ t, exec i (p.issuedFrom i) = .next t ∧ step p = .next (p.endCycle t)

/-- R65, R245: while a transaction runs, the host's request of a cycle moves `h_rdata` alone; the rest of the next state is
what the engine makes of the state before the edge, and the engine leaves the descriptor and `TXBUF` as they are (R75). -/
def Obligations.BusyCycleIsTheEnginesAlone : Prop :=
  ∀ s : State, s.cur.rst = false → s.busy = true → s.seq ≠ .idle → s.seq ≠ .fault →
    ∃ e, engineStep s = .next e ∧ step s = .next (s.endCycle e) ∧ sameDescriptor s e

/-- R220, R172: with the engine at rest, in `S_IDLE` until a GO is accepted and in `S_FAULT` whatever the host does, a cycle
without reset changes the descriptor, `TXBUF` and the read data at most. -/
def Obligations.RestingEngineChangesNothing : Prop :=
  ∀ s t : State, s.cur.rst = false → s.seq = .idle ∨ s.seq = .fault ∧ s.fault = true → s.acceptsGo = false →
    step s = .next t →
    t = { s with
      cfg := t.cfg, addr := t.addr, wlen := t.wlen, rlen := t.rlen, retry := t.retry, wait := t.wait, qdelay := t.qdelay
      txbuf := t.txbuf, hRdata := t.hRdata, ins := s.ins.tail, cycle := s.cycle + 1 }

/-! ### Line operations (R120 to R132) -/

/-- R123, with its code. -/
def Obligations.SclLoDrivesSclLow : Prop :=
  decode (.l 0b000#3) = .ok .sclLo ∧ ∀ s : State, exec .sclLo s = .next (if s.cur.ioWrErr then s.fatalAbort else
    { s with sclDir := .out, sclVal := false, dly := BitVec.ofNat 17 (2 * s.quarter) })

/-- R124, with its code: released, or driven high under `CFG.FORCE_SCL_HIGH`. -/
def Obligations.SclHiReleasesOrDrivesSclHigh : Prop :=
  decode (.l 0b001#3) = .ok .sclHi ∧ ∀ s : State, exec .sclHi s = .next (if s.cur.ioWrErr then s.fatalAbort else
    if s.cfg.getLsbD 0 then { s with sclDir := .out, sclVal := true, dly := BitVec.ofNat 17 (2 * s.quarter) }
    else { s with sclDir := .inp, dly := BitVec.ofNat 17 (2 * s.quarter) })

/-- R125, with its code. -/
def Obligations.SdaLoDrivesSdaLow : Prop :=
  decode (.l 0b010#3) = .ok .sdaLo ∧ ∀ s : State, exec .sdaLo s = .next (if s.cur.ioWrErr then s.fatalAbort else
    { s with sdaDir := .out, dly := BitVec.ofNat 17 (2 * s.quarter) })

/-- R126: whatever `CFG.FORCE_SCL_HIGH` is, SDA is released, never driven high. -/
def Obligations.SdaHiReleasesSda : Prop :=
  decode (.l 0b011#3) = .ok .sdaHi ∧ ∀ s : State, exec .sdaHi s = .next (if s.cur.ioWrErr then s.fatalAbort else
    { s with sdaDir := .inp, dly := BitVec.ofNat 17 (2 * s.quarter) })

/-- R127, R142, R149, R152: the sample is `sda_i`, or 1 when the read fails, which `RDERR_SEEN` records; in `B_OUT` it decides
`ack`, in `B_IN` it shifts into `bdata`. That under another command it goes nowhere is the model's choice, log 17. The line
state stays as it is and there is no tail. -/
def Obligations.SdaRdDeliversTheSample : Prop :=
  decode (.l 0b110#3) = .ok .sdaRd ∧ ∀ s : State,
    let level := if s.cur.ioRdErr then true else s.cur.sdaI
    exec .sdaRd s = .next { s with
      rderrSeen := if s.cur.ioRdErr then true else s.rderrSeen
      ack := if s.bop = .out then decide (level = false) else s.ack
      bdata := if s.bop = .inp then BitVec.ofNat 8 (2 * s.bdata.toNat + level.toNat) else s.bdata
      dly := 0 }

/-- R220: the fatal abort, taken instead of each of the four set ops when `io_wr_err = 1`, writes these fields and no
other. -/
def Obligations.FailedLineWriteTakesFatalAbort : Prop :=
  ∀ (s : State) (i : Instr), i = .sclLo ∨ i = .sclHi ∨ i = .sdaLo ∨ i = .sdaHi → s.cur.ioWrErr = true →
    exec i s = .next { s with
      sclDir := .inp, sdaDir := .inp, seq := .fault, dly := 0, wcnt := 0, busy := false, done := true, ok := false
      fault := true, failCode := .lineWr, failIndex := 0, failByte := 0 }

/-- R128, R132, R49: `io_wr_err` matters in the cycle of a set op only, `io_rd_err` in the cycle of an `SDA_RD` only, and
`sda_i` in the cycle of an `SDA_RD` or of a host read of `LINES` only. -/
def Obligations.BusInputsMatterOnlyWhereExamined : Prop :=
  ∀ (s : State) (c : CycleIn) (l : List CycleIn) (b : Bool), s.ins = c :: l →
    (s.setsLine = false → step { s with ins := { c with ioWrErr := b } :: l } = step s)
    ∧ (s.readsLine = false → step { s with ins := { c with ioRdErr := b } :: l } = step s)
    ∧ (s.readsLine = false → ¬ (c.hSel = true ∧ c.hWe = false ∧ c.hIdx = 0x00B#10) →
        step { s with ins := { c with sdaI := b } :: l } = step s)

/-- R129: a set op whose writes do not fail is idempotent. -/
def Obligations.SetOpsAreIdempotent : Prop :=
  ∀ (s : State) (i : Instr), i = .sclLo ∨ i = .sclHi ∨ i = .sdaLo ∨ i = .sdaHi → s.cur.ioWrErr = false →
    ∃ t, exec i s = .next t ∧ exec i t = .next t

/-- R131: resets and failing writes apart, SCL and SDA never change in the same cycle, and after a change both stay as they
are for the `2 * Q'` cycles of the tail. -/
def Obligations.OneLineChangesAndThenBothAreStable : Prop :=
  ∀ s t : State, s.cur.rst = false → s.writeFails = false → step s = .next t →
    ((t.sclDir = s.sclDir ∧ t.sclVal = s.sclVal) ∨ t.sdaDir = s.sdaDir)
    ∧ (t.sclDir ≠ s.sclDir ∨ t.sclVal ≠ s.sclVal ∨ t.sdaDir ≠ s.sdaDir →
        ∀ n ≤ 2 * s.quarter, t.noResetFor n →
          ∃ u, run n t = .next u ∧ u.sclDir = t.sclDir ∧ u.sclVal = t.sclVal ∧ u.sdaDir = t.sdaDir)

/-- R122: while `dly` is not 0 each cycle takes one from it, and nothing else of the engine moves. -/
def Obligations.TailCountsDownAndNothingElse : Prop :=
  ∀ (s : State) (n : Nat), s.seq.command.isSome = true → s.busy = true → n ≤ s.dly.toNat → s.noResetFor n →
    ∃ x, run n s = .next (({ s with dly := s.dly - BitVec.ofNat 17 n } : State).later n x)

/-! ### Byte commands (R140 to R156) -/

/-- R141: the micro-programs, as the traces of R9, and their lengths. -/
def Obligations.MicroProgramsAreTheTraces : Prop :=
  let trace (b : Bop) (data : Byte) (last : Bool) := (List.range b.len).map (fun u => uop b u data last)
  ∀ (data : Byte) (last : Bool),
    trace .init data last = [Lop.sdaHi, Lop.sclHi]
      ∧ trace .start data last = [Lop.sclLo, Lop.sdaHi, Lop.sclHi, Lop.sdaLo]
      ∧ trace .stop data last = [Lop.sclLo, Lop.sdaLo, Lop.sclHi, Lop.sdaHi]
      ∧ trace .out data last =
          (List.range 8).flatMap (fun i =>
            [Lop.sclLo, if data.getLsbD (7 - i) then Lop.sdaHi else Lop.sdaLo, Lop.sclHi, Lop.sclLo])
          ++ [Lop.sdaHi, Lop.sclHi, Lop.sdaRd, Lop.sclLo]
      ∧ trace .inp data last =
          [Lop.sdaHi] ++ (List.range 8).flatMap (fun _ => [Lop.sclHi, Lop.sdaRd, Lop.sclLo])
          ++ [if last then Lop.sdaHi else Lop.sdaLo, Lop.sclHi, Lop.sclLo]
      ∧ ((trace .out data last).count Lop.sdaRd = 1 ∧ (trace .out data last).length = 35 + 1)
      ∧ ((trace .inp data last).count Lop.sdaRd = 8 ∧ (trace .inp data last).length = 20 + 8)

/-- R93, R140: a byte command loads `bop`, `blast` and `bdata` and sets `ustep` to 0; nothing else changes. -/
def Obligations.ByteCommandsLoadTheirOperands : Prop :=
  ∀ (s : State) (data : Byte) (last : Bool),
    exec .bInit s = .next { s with bop := .init, blast := false, bdata := 0, ustep := 0 }
      ∧ exec .bStart s = .next { s with bop := .start, blast := false, bdata := 0, ustep := 0 }
      ∧ exec .bStop s = .next { s with bop := .stop, blast := false, bdata := 0, ustep := 0 }
      ∧ exec (.bOut data) s = .next { s with bop := .out, blast := false, bdata := data, ustep := 0 }
      ∧ exec (.bIn last) s = .next { s with bop := .inp, blast := last, bdata := 0, ustep := 0 }

/-- R143, R153, R249: `B_INIT`, run to its end, releases SDA and raises SCL in `2 * D` cycles. -/
def Obligations.BInitReleasesTheBus : Prop :=
  ∀ s : State, s.seq.command = some .init → s.busy = true → s.dly = 0 → s.quietFor (2 * s.opCycles) →
    ∃ t x, exec .bInit s = .next t ∧ run (2 * s.opCycles) t = .next (({ s with
      bop := .init, blast := false, bdata := 0, ustep := 2, sdaDir := .inp
      sclDir := if s.cfg.getLsbD 0 then .out else .inp
      sclVal := if s.cfg.getLsbD 0 then true else s.sclVal } : State).later (2 * s.opCycles) x)

/-- R145, R153, R249: `B_START`, run to its end, leaves SCL high and SDA low with `START_OPEN` set, in `4 * D` cycles. -/
def Obligations.BStartOpensTheBus : Prop :=
  ∀ s : State, s.seq.command = some .start → s.busy = true → s.dly = 0 → s.quietFor (4 * s.opCycles) →
    ∃ t x, exec .bStart s = .next t ∧ run (4 * s.opCycles) t = .next (({ s with
      bop := .start, blast := false, bdata := 0, ustep := 4, sdaDir := .out, startOpen := true
      sclDir := if s.cfg.getLsbD 0 then .out else .inp
      sclVal := s.cfg.getLsbD 0 } : State).later (4 * s.opCycles) x)

/-- R146, R153, R249: `B_STOP`, run to its end, leaves both lines high with `START_OPEN` clear, in `4 * D` cycles. -/
def Obligations.BStopFreesTheBus : Prop :=
  ∀ s : State, s.seq.command = some .stop → s.busy = true → s.dly = 0 → s.quietFor (4 * s.opCycles) →
    ∃ t x, exec .bStop s = .next t ∧ run (4 * s.opCycles) t = .next (({ s with
      bop := .stop, blast := false, bdata := 0, ustep := 4, sdaDir := .inp, startOpen := false
      sclDir := if s.cfg.getLsbD 0 then .out else .inp
      sclVal := s.cfg.getLsbD 0 } : State).later (4 * s.opCycles) x)

/-- R147 to R149, R153, R249: `B_OUT data`, run to its end, takes `35 * D + 1` cycles, samples SDA in the cycle after the
tail of its 34th set op, and holds the acknowledge in `ack`; SCL is low and SDA released. -/
def Obligations.BOutRecordsTheAcknowledge : Prop :=
  ∀ (s : State) (data : Byte), s.seq.command = some .out → s.busy = true → s.dly = 0 → s.quietFor (35 * s.opCycles + 1) →
    ∃ t x, exec (.bOut data) s = .next t ∧ run (35 * s.opCycles + 1) t = .next (({ s with
      bop := .out, blast := false, bdata := data, ustep := 36, sclDir := .out, sclVal := false, sdaDir := .inp
      ack := !s.sampleAt (34 * s.opCycles)
      rderrSeen := s.rderrSeen || (s.inputAt (34 * s.opCycles)).ioRdErr } : State).later (35 * s.opCycles + 1) x)

/-- R150 to R153, R249: `B_IN last`, run to its end, takes `20 * D + 8` cycles and assembles the eight samples, the first
most significant; SCL is low, and SDA is driven low for the master's ACK and released for its NAK. -/
def Obligations.BInReceivesTheByte : Prop :=
  ∀ (s : State) (last : Bool), s.seq.command = some .inp → s.busy = true → s.dly = 0 → s.quietFor (20 * s.opCycles + 8) →
    let at_ (i : Nat) := 2 * s.opCycles + i * (2 * s.opCycles + 1)
    ∃ t x, exec (.bIn last) s = .next t ∧ run (20 * s.opCycles + 8) t = .next (({ s with
      bop := .inp, blast := last, ustep := 28, sclDir := .out, sclVal := false
      sdaDir := if last then .inp else .out
      bdata := byteOf (fun i => s.sampleAt (at_ i))
      rderrSeen := s.rderrSeen || (List.range 8).any (fun i => (s.inputAt (at_ i)).ioRdErr) } : State).later
        (20 * s.opCycles + 8) x)

/-- R140, R156, R249: whatever the lines and the environment do, a byte command executes exactly its list of line ops, in
order, and is ready to complete after `setOps * D + reads` cycles. -/
def Obligations.ByteCommandExecutesExactlyItsList : Prop :=
  ∀ (s : State) (b : Bop), s.seq.command = some b → s.bop = b → s.ustep = 0 → s.dly = 0 → s.busy = true →
    s.quietFor (s.commandCycles b) →
    lineOpTrace (s.commandCycles b) s = (List.range b.len).map (fun u => uop b u s.bdata s.blast)
    ∧ ∃ t, run (s.commandCycles b) s = .next t ∧ t.completing = true ∧ t.seq = s.seq ∧ t.bop = b

/-! ### The sequencer (R170 to R199) -/

/-- R172: GO, ignored while `BUSY` (R65). `a7` is taken from `TXBUF[0]` or `ADDR` (R175), and `enter(S_INIT)` starts
`B_INIT`. A write drives 0 on `h_rdata` (R61). -/
def Obligations.GoStartsOrRejectsTheTransaction : Prop :=
  ∀ s : State,
    exec .transaction s = .next (
      if s.busy = true ∨ s.seq ≠ .idle ∨ s.fault = true then { s with hRdata := 0 }
      else if s.wlen.toNat > s.par.txDepth ∨ s.rlen.toNat > s.par.rxDepth ∨ s.retry.toNat > s.par.retryMax
          ∨ (s.cfg.getLsbD 3 = true ∧ s.wlen = 0) then
        { s with
          hRdata := 0, done := true, ok := false, nakSeen := false, rderrSeen := false, failCode := .badArg
          failIndex := 0, failByte := 0, rxcnt := 0, tries := 0, widx := 0, ridx := 0 }
      else
        { s with
          hRdata := 0, done := false, ok := false, nakSeen := false, rderrSeen := false, failCode := .none
          failIndex := 0, failByte := 0, rxcnt := 0, tries := 0, widx := 0, ridx := 0
          busy := true, a7 := if s.cfg.getLsbD 3 then (s.txByte 0).extractLsb' 1 7 else s.addr
          seq := .init, ustep := 0, bop := .init, bdata := 0, blast := false })

/-- R176, R183: after `B_INIT` comes the START of the write phase, after a START the address byte of its phase. -/
def Obligations.StartPhasesFollowInOrder : Prop :=
  ∀ s : State,
    (s.completes .init → step s = andThen (enter .wStart 0 s) (fun e => .next (s.endCycle e)))
    ∧ (s.completes .wStart → step s = andThen (enter .wAddr 0 s) (fun e => .next (s.endCycle e)))
    ∧ (s.completes .rStart → step s = andThen (enter .rAddr 0 s) (fun e => .next (s.endCycle e)))

/-- R177, R212. -/
def Obligations.WriteAddressCompletion : Prop :=
  ∀ s : State, s.completes .wAddr →
    let first := if s.cfg.getLsbD 3 then 1 else 0
    let noted := { s with nakSeen := if s.ack then s.nakSeen else true }
    step s = andThen
      (if s.ack = false ∧ s.cfg.getLsbD 2 = false then
        enter .abStop 0 { noted with failCode := .wAddrNak, failIndex := 0, failByte := s.bdata }
      else if s.wlen.toNat > first then
        enter .wData (BitVec.ofNat 9 first) { noted with widx := BitVec.ofNat 9 first }
      else enter .wStop 0 noted)
      (fun e => .next (s.endCycle e))

/-- R178, R213: the recorded index is the position in the payload, counted from 1. -/
def Obligations.PayloadByteCompletion : Prop :=
  ∀ s : State, s.completes .wData →
    let first : BitVec 9 := if s.cfg.getLsbD 3 then 1 else 0
    let noted := { s with nakSeen := if s.ack then s.nakSeen else true }
    step s = andThen
      (if s.ack = false ∧ s.cfg.getLsbD 2 = false then
        enter .abStop 0 { noted with failCode := .wDataNak, failIndex := s.widx - first + 1, failByte := s.bdata }
      else if s.widx.toNat + 1 < s.wlen.toNat then enter .wData (s.widx + 1) { noted with widx := s.widx + 1 }
      else enter .wStop 0 noted)
      (fun e => .next (s.endCycle e))

/-- R179, R180, R181, R188: what follows each STOP; `finish` returns to `S_IDLE` with the outcome and changes nothing else. -/
def Obligations.StopsEndThePhaseOrTheTransaction : Prop :=
  ∀ s : State,
    let finished (ok : Bool) : State := { s with seq := .idle, ustep := 0, busy := false, done := true, ok := ok }
    (s.completes .wStop → s.rlen = 0 → step s = .next (s.endCycle (finished true)))
    ∧ (s.completes .wStop → s.rlen ≠ 0 → step s = andThen (enter .preWait 0 s) (fun e => .next (s.endCycle e)))
    ∧ (s.completes .abStop → step s = .next (s.endCycle (finished false)))
    ∧ (s.completes .rStop → step s = .next (s.endCycle (finished true)))

/-- R184: `CFG.IGNORE_NAK` is not consulted. -/
def Obligations.ReadAddressCompletion : Prop :=
  ∀ s : State, s.completes .rAddr →
    step s = andThen
      (if s.ack then enter .rData 0 { s with ridx := 0 } else enter .rnStop 0 { s with nakSeen := true })
      (fun e => .next (s.endCycle e))

/-- R185, R214: retry, or fail when the retries are used up. -/
def Obligations.ReadAddressRetryOrFailure : Prop :=
  ∀ s : State, s.completes .rnStop →
    (s.tries = s.retry →
      step s = .next (s.endCycle { s with
        failCode := .rAddrNak, failIndex := 0, failByte := s.a7 ++ 1#1
        seq := .idle, ustep := 0, busy := false, done := true, ok := false }))
    ∧ (s.tries ≠ s.retry →
      step s = andThen (enter .retryWait 0 { s with tries := s.tries + 1 }) (fun e => .next (s.endCycle e)))

/-- R187: the received byte is stored and counted, and no other byte of `RXBUF` changes. -/
def Obligations.ReceivedByteIsStored : Prop :=
  ∀ s : State, s.completes .rData →
    ∃ m, step s = andThen
        (if s.ridx.toNat + 1 < s.rlen.toNat then
          enter .rData (s.ridx + 1) { s with rxbuf := m, rxcnt := s.ridx + 1, ridx := s.ridx + 1 }
        else enter .rStop 0 { s with rxbuf := m, rxcnt := s.ridx + 1 })
        (fun e => .next (s.endCycle e))
      ∧ ∀ j, ({ s with rxbuf := m } : State).rxByte j = if j = s.ridx.toNat then s.bdata else s.rxByte j

/-- R182, R186, R249: a wait state entered with `wcnt = N` lasts `N + 1` cycles and then starts the read phase; nothing else
moves. -/
def Obligations.WaitStateLastsItsCount : Prop :=
  ∀ s : State, s.seq = .preWait ∨ s.seq = .retryWait → s.busy = true → s.noResetFor (s.wcnt + 1) →
    (∀ n ≤ s.wcnt, ∃ x, run n s = .next (({ s with wcnt := s.wcnt - n } : State).later n x))
    ∧ ∃ x, run (s.wcnt + 1) s = .next (({ s with
        wcnt := 0, seq := .rStart, ustep := 0, bop := .start, bdata := 0, blast := false } : State).later (s.wcnt + 1) x)

/-- R196, R174: every change of `seq` is one of the table's, and one out of a state that runs a byte command is taken in that
command's completion step. -/
def Obligations.SeqMovesOnlyAlongTheTable : Prop :=
  ∀ s t : State, step s = .next t → t.seq ≠ s.seq →
    (s.cur.rst = true ∧ t.seq = .idle)
    ∨ (s.cur.rst = false ∧ s.writeFails = true ∧ s.seq.command.isSome = true ∧ t.seq = .fault)
    ∨ (s.cur.rst = false ∧ (s.seq.command.isSome = true → s.completing = true) ∧ seqEdge s t.seq)

/-- R44: what may change each flag in a cycle without reset. -/
def Obligations.FlagsChangeOnlyWhereR44Says : Prop :=
  ∀ s t : State, s.cur.rst = false → step s = .next t →
    (t.ack ≠ s.ack → s.readsLine = true ∧ s.bop = .out ∧ s.ustep = 34)
    ∧ (t.busy ≠ s.busy → s.acceptsGo = true ∨ s.finishes = true ∨ s.writeFails = true)
    ∧ (t.done ≠ s.done → s.acceptsGo = true ∨ s.finishes = true ∨ s.writeFails = true)
    ∧ (t.ok ≠ s.ok → s.acceptsGo = true ∨ s.finishes = true ∨ s.writeFails = true)
    ∧ (t.nakSeen ≠ s.nakSeen → s.acceptsGo = true
        ∨ (s.completing = true ∧ s.seq.command = some .out ∧ s.ack = false ∧ t.nakSeen = true))
    ∧ (t.rderrSeen ≠ s.rderrSeen → s.acceptsGo = true ∨ (s.readsLine = true ∧ s.cur.ioRdErr = true ∧ t.rderrSeen = true))
    ∧ (t.fault ≠ s.fault → s.writeFails = true ∧ t.fault = true)
    ∧ (t.startOpen ≠ s.startOpen → s.setsLine = true ∧ s.ustep = 3 ∧
        ((s.bop = .start ∧ t.startOpen = true) ∨ (s.bop = .stop ∧ t.startOpen = false)))

/-- R45, R76, R62: the engine writes `RXBUF` in the completion of `S_RDATA` only, at index `ridx`; `TXBUF` changes only by a
host write to its index while not busy. -/
def Obligations.BuffersChangeOnlyByTheirWriters : Prop :=
  ∀ s t : State, s.cur.rst = false → step s = .next t →
    (t.rxbuf ≠ s.rxbuf → s.completing = true ∧ s.seq = .rData ∧
      ∀ j, t.rxByte j = if j = s.ridx.toNat then s.bdata else s.rxByte j)
    ∧ (t.txbuf ≠ s.txbuf → s.cur.hSel = true ∧ s.cur.hWe = true ∧ s.busy = false ∧
      ∃ i < s.par.txDepth, s.cur.hIdx.toNat = 0x100 + i ∧
        ∀ j, t.txByte j = if j = i then s.cur.hWdata.setWidth 8 else s.txByte j)

/-! ### The invariant and what follows from it -/

/-- The reset state of any legal parameters meets the invariant. -/
def Obligations.InvariantHoldsAtReset : Prop :=
  Inv State.reset ∧ ∀ (p : Params) (e n : Nat) (l : List CycleIn), p.wf = true → Inv (State.atReset p e n l)

/-- The invariant, canonical buffers and the whole of R26, R29, R76, R153 and R154 in it, is kept by every step. That it has SCL
high when a `B_OUT` is started after a `B_START`, as R145 and R153 leave it and against R144, is the model's choice, log 19. -/
def Obligations.EveryStepKeepsTheInvariant : Prop := ∀ s t : State, Inv s → step s = .next t → Inv t

/-- R154: SDA changes while the block's SCL is low, but for step 3 of `B_START` and of `B_STOP`, which are the only START
and STOP conditions at the pads and always are ones; every sample is taken with SCL high and SDA released. -/
def Obligations.SdaChangesOnlyWhileSclIsLow : Prop :=
  ∀ s t : State, Inv s → s.cur.rst = false → s.writeFails = false → step s = .next t →
    let startStep := s.atLineOp = true ∧ s.bop = .start ∧ s.ustep = 3
    let stopStep := s.atLineOp = true ∧ s.bop = .stop ∧ s.ustep = 3
    (t.sdaDir ≠ s.sdaDir → (s.sclLow ∧ t.sclLow) ∨ startStep ∨ stopStep)
    ∧ (padStart s t ↔ startStep) ∧ (startStep → t.startOpen = true)
    ∧ (padStop s t ↔ stopStep) ∧ (stopStep → t.startOpen = false)
    ∧ (s.readsLine = true → s.sclHigh ∧ s.sdaDir = .inp)

/-- R192: when a transaction has ended without fault, no START is open and both lines are high. -/
def Obligations.DoneWithoutFaultMeansIdleBus : Prop :=
  ∀ s : State, Inv s → s.done = true → s.fault = false → s.startOpen = false ∧ s.sclHigh ∧ s.sdaDir = .inp

/-- R217: a failure other than a failing line write leaves the block idle, the bus free, nothing received and the descriptor
as it was. -/
def Obligations.FailureLeavesTheBusFree : Prop :=
  ∀ s t : State, Inv s → s.cur.rst = false → s.busy = true → step s = .next t →
    t.busy = false → t.fault = false → t.failCode ≠ .none →
    t.seq = .idle ∧ t.done = true ∧ t.ok = false ∧ t.startOpen = false ∧ t.sclHigh ∧ t.sdaDir = .inp ∧ t.rxcnt = 0
      ∧ sameDescriptor s t

/-- R26, R76, R198: in a busy cycle the counters are set or go up by one without wrapping, and the buffer indices in use stay
inside the buffers. -/
def Obligations.CountersNeverWrap : Prop :=
  ∀ s t : State, Inv s → s.cur.rst = false → s.busy = true → step s = .next t →
    (t.widx = s.widx ∨ t.widx.toNat = s.first ∨ t.widx.toNat = s.widx.toNat + 1)
    ∧ (t.ridx = s.ridx ∨ t.ridx = 0 ∨ t.ridx.toNat = s.ridx.toNat + 1)
    ∧ (t.tries = s.tries ∨ t.tries.toNat = s.tries.toNat + 1)
    ∧ (t.seq = .wData → t.widx.toNat < t.par.txDepth) ∧ (t.seq = .rData → t.ridx.toNat < t.par.rxDepth)
    ∧ (t.failCode = .wDataNak → s.failCode ≠ .wDataNak →
        1 ≤ t.failIndex.toNat ∧ t.failIndex.toNat = s.widx.toNat - s.first + 1)

/-! ### Whole transactions -/

/-- R190, R255, R258: every transaction ends, whatever the environment and the host do, unless it is reset: from any busy
state, and counted from its GO. -/
def Obligations.EveryTransactionEnds : Prop :=
  ∀ s : State, Inv s → (∀ k, (s.inputAt k).rst = false) →
    (s.busy = true → ∃ n t, run n s = .next t ∧ t.busy = false ∧ t.done = true)
    ∧ (s.acceptsGo = true → ∃ n e, TransactionFrom s e n ∧ e.busy = false)

/-- R195: the two address modes give the same line operations, the same values of the `SDA_RD` ops and the same results, for
the same answers and a silent host. -/
def Obligations.AddressModesAreEquivalent : Prop :=
  ∀ (s t : State) (n : Nat), AipPair s t → s.par.wf = true → s.ready →
    (∀ k < n, (s.inputAt k).rst = false ∧ (s.inputAt k).hSel = false) →
    ∃ s' t' u v, exec .transaction s = .next s' ∧ exec .transaction t = .next t' ∧
      run n s' = .next u ∧ run n t' = .next v ∧ transcript n s' = transcript n t' ∧ sameView u v

/-- R250, R254: with SDA held low for ever and no line failing, an accepted transaction of `n` payload bytes and `m` bytes to
read is busy for exactly the cycles of R250 and ends with `OK = 1`, every byte received being 0. -/
def Obligations.StuckLowTransactionEndsOnTime : Prop :=
  ∀ s : State, s.par.wf = true → s.ready → s.badDescriptor = false →
    let n := s.wlen.toNat - s.first
    let m := s.rlen.toNat
    let total := s.writeCycles n + (if m = 0 then 0 else s.readCycles m)
    (∀ k < total, (s.inputAt k).rst = false ∧ (s.inputAt k).sdaI = false ∧ (s.inputAt k).ioRdErr = false
      ∧ (s.inputAt k).ioWrErr = false) →
    ∃ g u, exec .transaction s = .next g ∧ run total g = .next u ∧
      (∀ k < total, ∃ v, run k g = .next v ∧ v.busy = true ∧ v.done = false) ∧
      u.busy = false ∧ u.done = true ∧ u.ok = true ∧ u.failCode = .none ∧ u.nakSeen = false ∧ u.rderrSeen = false ∧
      u.rxcnt.toNat = m ∧ (∀ j < m, u.rxByte j = 0) ∧ u.startOpen = false ∧ u.sclHigh ∧ u.sdaDir = .inp

/-- R212, R250, R254: with no slave on the bus, every sample 1, an accepted transaction that does not ignore NAKs sends the
address byte alone, puts a STOP on the bus and fails with `F_WADDR_NAK`, at a fixed cycle. -/
def Obligations.AbsentSlaveFailsAtTheAddress : Prop :=
  ∀ s : State, s.ready → s.badDescriptor = false → s.cfg.getLsbD 2 = false → s.quietFor (s.writeCycles 0) →
    (∀ k < s.writeCycles 0, s.sampleAt k = true) →
    ∃ g u, exec .transaction s = .next g ∧ run (s.writeCycles 0) g = .next u ∧
      (∀ k < s.writeCycles 0, ∃ v, run k g = .next v ∧ v.busy = true ∧ v.done = false) ∧
      u.busy = false ∧ u.done = true ∧ u.ok = false ∧ u.nakSeen = true ∧ u.failCode = .wAddrNak ∧ u.failIndex = 0 ∧
      u.failByte = (if s.cfg.getLsbD 3 then (s.txByte 0).extractLsb' 1 7 else s.addr) ++ 0#1 ∧
      u.rxcnt = 0 ∧ u.startOpen = false ∧ u.sclHigh ∧ u.sdaDir = .inp ∧ u.seq = .idle

/-! ### The host port (R60 to R67) -/

/-- R40 to R43: the bits of the four read-only registers, with the codes of R28 and of R210. -/
def Obligations.StatusWordsLayout : Prop :=
  ∀ s : State,
    (let w := s.statusWord
     w.getLsbD 0 = s.busy ∧ w.getLsbD 1 = s.done ∧ w.getLsbD 2 = s.ok ∧ w.getLsbD 3 = s.nakSeen ∧ w.getLsbD 4 = s.rderrSeen
      ∧ w.getLsbD 5 = s.fault ∧ w.getLsbD 6 = s.startOpen ∧ w.getLsbD 7 = false ∧ w.extractLsb' 8 4 = s.failCode.code
      ∧ w.extractLsb' 12 4 = s.seq.code ∧ w.extractLsb' 16 6 = s.ustep ∧ w.extractLsb' 22 10 = 0)
    ∧ (s.resultWord.extractLsb' 0 9 = s.rxcnt ∧ s.resultWord.extractLsb' 9 7 = 0
      ∧ s.resultWord.extractLsb' 16 9 = s.failIndex ∧ s.resultWord.extractLsb' 25 7 = 0)
    ∧ (s.diagWord.extractLsb' 0 8 = s.failByte ∧ s.diagWord.extractLsb' 8 16 = s.tries ∧ s.diagWord.extractLsb' 24 8 = 0)
    ∧ (let w := s.linesWord
       (w.getLsbD 0 = true ↔ s.sclDir = .out) ∧ w.getLsbD 1 = s.sclVal ∧ (w.getLsbD 2 = true ↔ s.sdaDir = .out)
        ∧ w.getLsbD 3 = false ∧ w.getLsbD 4 = s.cur.sdaI ∧ w.extractLsb' 5 27 = 0)
    ∧ (Seq.idle.code = 0 ∧ Seq.init.code = 1 ∧ Seq.wStart.code = 2 ∧ Seq.wAddr.code = 3 ∧ Seq.wData.code = 4
      ∧ Seq.wStop.code = 5 ∧ Seq.preWait.code = 6 ∧ Seq.rStart.code = 7 ∧ Seq.rAddr.code = 8 ∧ Seq.rnStop.code = 9
      ∧ Seq.retryWait.code = 10 ∧ Seq.rData.code = 11 ∧ Seq.rStop.code = 12 ∧ Seq.abStop.code = 13 ∧ Seq.fault.code = 14)
    ∧ (FailCode.none.code = 0 ∧ FailCode.badArg.code = 1 ∧ FailCode.wAddrNak.code = 2 ∧ FailCode.wDataNak.code = 3
      ∧ FailCode.rAddrNak.code = 4 ∧ FailCode.lineWr.code = 5)

/-- R64, R66: what `HREAD` of each index puts on `h_rdata`; nothing else changes. -/
def Obligations.HostReadReturnsTheRegister : Prop :=
  ∀ s : State, s.par.wf = true →
    let reads (idx : HostIdx) (v : Reg) : Prop := exec (.hread idx) s = .next { s with hRdata := v }
    reads 0x000 0 ∧ reads 0x001 (s.cfg.setWidth 32) ∧ reads 0x002 (s.addr.setWidth 32) ∧ reads 0x003 (s.wlen.setWidth 32)
      ∧ reads 0x004 (s.rlen.setWidth 32) ∧ reads 0x005 (s.retry.setWidth 32) ∧ reads 0x006 s.wait
      ∧ reads 0x007 (s.qdelay.setWidth 32) ∧ reads 0x008 s.statusWord ∧ reads 0x009 s.resultWord ∧ reads 0x00A s.diagWord
      ∧ reads 0x00B s.linesWord
      ∧ (∀ i < s.par.txDepth, reads (BitVec.ofNat 10 (0x100 + i)) ((s.txByte i).setWidth 32))
      ∧ (∀ i < s.par.rxDepth, reads (BitVec.ofNat 10 (0x200 + i)) ((s.rxByte i).setWidth 32))
      ∧ ∀ idx : HostIdx, (0x00C ≤ idx.toNat ∧ idx.toNat < 0x100) ∨ (0x100 + s.par.txDepth ≤ idx.toNat ∧ idx.toNat < 0x200)
          ∨ 0x200 + s.par.rxDepth ≤ idx.toNat → reads idx 0

/-- R65, R66, R67: what `HWRITE` of each index stores. While `BUSY`, and at any other index, it stores nothing; at index 0
bit 0 is GO. A write drives 0 on `h_rdata` (R61). -/
def Obligations.HostWriteStoresTheRegister : Prop :=
  ∀ (s : State) (v : Reg), s.par.wf = true →
    let writes (idx : HostIdx) (t : State) : Prop := exec (.hwrite idx v) s = .next { t with hRdata := 0 }
    (s.busy = true → ∀ idx, writes idx s)
    ∧ (s.busy = false →
      writes 0x001 { s with cfg := v.extractLsb' 0 4 } ∧ writes 0x002 { s with addr := v.extractLsb' 0 7 }
        ∧ writes 0x003 { s with wlen := v.extractLsb' 0 16 } ∧ writes 0x004 { s with rlen := v.extractLsb' 0 16 }
        ∧ writes 0x005 { s with retry := v.extractLsb' 0 16 } ∧ writes 0x006 { s with wait := v }
        ∧ writes 0x007 { s with qdelay := v.extractLsb' 0 16 }
        ∧ (v.getLsbD 0 = false → writes 0x000 s)
        ∧ (v.getLsbD 0 = true → exec (.hwrite 0x000 v) s = exec .transaction s)
        ∧ (∀ i < s.par.txDepth, ∃ m, writes (BitVec.ofNat 10 (0x100 + i)) { s with txbuf := m } ∧
            ∀ j, ({ s with txbuf := m } : State).txByte j = if j = i then v.extractLsb' 0 8 else s.txByte j)
        ∧ ∀ idx : HostIdx, (0x008 ≤ idx.toNat ∧ idx.toNat < 0x100) ∨ 0x100 + s.par.txDepth ≤ idx.toNat → writes idx s)

/-- R62, R64, R67: a write to `TXBUF[i]` while not busy stores the low byte at `i`, changes no other byte and no other register, and
reads back. -/
def Obligations.TxbufWriteReadsBack : Prop :=
  ∀ (s : State) (i : Nat) (v : Reg), s.par.wf = true → s.busy = false → i < s.par.txDepth →
    let idx := BitVec.ofNat 10 (0x100 + i)
    ∃ t, exec (.hwrite idx v) s = .next t ∧ t = { s with hRdata := 0, txbuf := t.txbuf } ∧
      (∀ j, t.txByte j = if j = i then v.extractLsb' 0 8 else s.txByte j) ∧
      exec (.hread idx) t = .next { t with hRdata := (v.extractLsb' 0 8).setWidth 32 }

/-- R61, R247: `h_rdata` answers a read with the register before the cycle's edge, and is 0 in a cycle without a read. -/
def Obligations.ReadsReturnTheValueBeforeTheEdge : Prop :=
  ∀ s t : State, s.cur.rst = false → step s = .next t →
    t.hRdata = if s.cur.hSel = true ∧ s.cur.hWe = false then s.hostRead s.cur.hIdx else 0

/-- R21, R22, R46, R244: the outputs are functions of the state before the edge, and SDA is never driven high. -/
def Obligations.OutputsShowTheState : Prop :=
  ∀ s : State, (s.outputs.sclOe = true ↔ s.sclDir = .out) ∧ s.outputs.sclO = s.sclVal
    ∧ (s.outputs.sdaOe = true ↔ s.sdaDir = .out) ∧ s.outputs.sdaO = false ∧ s.outputs.busy = s.busy ∧ s.outputs.done = s.done

/-- R103, R104: the host program `XFER addr, [w0..wn-1], rlen`, run one line per cycle from an idle block, loads the
descriptor and, the descriptor being legal, starts the transaction; what follows it in the program is left to run. A cycle of
`WAITDONE` reads `STATUS` and is the last one when `DONE` was set. -/
def Obligations.XferProgramStartsTheTransaction : Prop :=
  (∀ (s : State) (addr rlen : Reg) (ws : List Byte) (rest : List HostLine),
    s.par.wf = true → s.ready → s.cfg.getLsbD 3 = false → ws.length ≤ s.par.txDepth →
    (rlen.extractLsb' 0 16).toNat ≤ s.par.rxDepth → s.retry.toNat ≤ s.par.retryMax → s.noResetFor (ws.length + 4) →
    ∃ t, runProgram (ws.length + 4) ((Pseudo.xfer addr ws rlen).expand ++ rest) s = .next (rest, t) ∧
      t.busy = true ∧ t.seq = .init ∧ t.ustep = 0 ∧ t.bop = .init ∧
      t.a7 = addr.extractLsb' 0 7 ∧ t.wlen.toNat = ws.length ∧ t.rlen = rlen.extractLsb' 0 16 ∧
      (∀ k (h : k < ws.length), t.txByte k = ws[k]) ∧ (∀ k, ws.length ≤ k → t.txByte k = s.txByte k) ∧
      t.ins = s.ins.drop (ws.length + 4))
    ∧ ∀ (s : State) (rest : List HostLine), s.cur.rst = false →
      ∃ t, runProgram 1 (Pseudo.waitDone.expand ++ rest) s =
          .next (if s.done = true then rest else Pseudo.waitDone.expand ++ rest, t) ∧
        t.hRdata = s.statusWord ∧
        step { s with ins := { s.cur with hSel := true, hWe := false, hIdx := 0x008, hWdata := 0 } :: s.ins.tail } = .next t

/-! ### Encodings (R90 to R106) -/

/-- Every well-formed operation, with every operand, is what the decoder reads from its encoding. -/
def Obligations.DecodeOfEncodeIsTheOperation : Prop := ∀ i : Instr, i.wf = true → decode (encode i) = .ok i

/-- A word that decodes is the encoding of its operation, up to the bits its row ignores (R95); the operation is well
formed. -/
def Obligations.EncodeOfDecodeIsTheWord : Prop :=
  ∀ (c : CodeWord) (i : Instr), decode c = .ok i →
    i.wf = true ∧ encode i = (match c with
      | .l lop => .l lop
      | .b bcmd => .b bcmd
      | .h req => .h (req &&& hostMask req))

/-- R101: the reserved codes decode to nothing, and on the host port nothing is illegal. -/
def Obligations.ReservedCodesAreRefused : Prop :=
  (∀ lop : BitVec 3, lop = 0b100#3 ∨ lop = 0b101#3 ∨ lop = 0b111#3 → decode (.l lop) = .error .reservedLop)
    ∧ (∀ bcmd : BitVec 12, 5 ≤ (bcmd.extractLsb' 9 3).toNat → decode (.b bcmd) = .error .reservedBop)
    ∧ ∀ req : BitVec 43, ∃ i, decode (.h req) = .ok i

/-- Words written out from R92, R93, R94 and R95. -/
def Obligations.SampleWordsDecode : Prop :=
  decode (.l 0b000#3) = .ok .sclLo ∧ decode (.l 0b110#3) = .ok .sdaRd
    ∧ decode (.b 0b011010100000#12) = .ok (.bOut 0xA0) ∧ decode (.b 0b100100000000#12) = .ok (.bIn true)
    ∧ decode (.h 0x40200000050#43) = .ok (.hwrite 0x002 0x50) ∧ decode (.h 0x00800000000#43) = .ok (.hread 0x008)
    ∧ decode (.h 0x40000000001#43) = .ok .transaction
end

