-- ==== Sys2Proof/Laws/Config.lean ====
section
/-! SUPPORT. The width of `wcnt` (R30, R173): what fits it, and when it is R30's; and that the parameters of the reset state
are legal. -/

namespace Sys2Proof

/-- The parameters of the reset state are legal, whatever the free ones are. -/
theorem config_params_wf : Config.params.wf = true := by simp [Params.wf, Config.params]

theorem ceilLog2_le_iff (n k : Nat) : ceilLog2 n ≤ k ↔ n ≤ 2 ^ k := by
  unfold ceilLog2
  have hk := Nat.two_pow_pos k
  split_ifs with h
  · omega
  · rw [Nat.succ_le_iff, Nat.log2_lt (by omega)]
    omega

theorem le_two_pow_ceilLog2 (n : Nat) : n ≤ 2 ^ ceilLog2 n := (ceilLog2_le_iff n _).mp le_rfl

/-- A 32-bit count of microseconds fits the width of R30 in cycles. -/
theorem Params.fits_wcntWidthR30 (p : Params) {us : Nat} (h : us < 2 ^ 32) : us * p.clkPerUs < 2 ^ p.wcntWidthR30 := by
  rw [Params.wcntWidthR30, Nat.pow_add]
  exact Nat.mul_lt_mul_of_lt_of_le h (le_two_pow_ceilLog2 _) (Nat.two_pow_pos _)

/-- For a default wait of 32 bits the width of `wcnt` is R30's (log 7). -/
theorem Params.wcntWidth_of_lt (p : Params) (h : p.defaultRetryWaitUs < 2 ^ 32) : p.wcntWidth = p.wcntWidthR30 :=
  max_eq_left ((ceilLog2_le_iff _ _).mpr (p.fits_wcntWidthR30 h))

/-- A 32-bit count of microseconds fits `wcnt` in cycles (R173). -/
theorem Params.fits_wcnt (p : Params) {us : Nat} (h : us < 2 ^ 32) : us * p.clkPerUs < 2 ^ p.wcntWidth :=
  lt_of_lt_of_le (p.fits_wcntWidthR30 h) (Nat.pow_le_pow_right (by decide) (le_max_left _ _))

/-- So does the default wait (R173). -/
theorem Params.default_fits_wcnt (p : Params) : p.defaultRetryWaitUs * p.clkPerUs < 2 ^ p.wcntWidth :=
  lt_of_lt_of_le (le_two_pow_ceilLog2 _) (Nat.pow_le_pow_right (by decide) (le_max_right _ _))

namespace Machine

/-- What is loaded fits the register (R30, R173). -/
theorem waitLoad_lt (s : State) (q : Seq) (h : s.wcnt < 2 ^ s.par.wcntWidth) : s.waitLoad q < 2 ^ s.par.wcntWidth := by
  cases q
  case preWait => exact s.par.fits_wcnt s.wait.isLt
  case retryWait =>
    unfold State.waitLoad State.retryWaitUs
    dsimp only
    split_ifs
    · exact s.par.fits_wcnt s.wait.isLt
    · exact s.par.default_fits_wcnt
  all_goals exact h

end Machine

end Sys2Proof
end

