-- ==== Sys2Proof/Laws/Decode.lean ====
section
/-! SUPPORT. What the decoder reads from the words the block itself puts on its interfaces. -/

namespace Sys2Proof

@[simp] theorem decode_sclLo : decode (.l Lop.sclLo) = .ok .sclLo := rfl
@[simp] theorem decode_sclHi : decode (.l Lop.sclHi) = .ok .sclHi := rfl
@[simp] theorem decode_sdaLo : decode (.l Lop.sdaLo) = .ok .sdaLo := rfl
@[simp] theorem decode_sdaHi : decode (.l Lop.sdaHi) = .ok .sdaHi := rfl
@[simp] theorem decode_sdaRd : decode (.l Lop.sdaRd) = .ok .sdaRd := rfl

namespace Machine

/-- A bit of three fields laid side by side. -/
theorem getLsbD_three {a b c : Nat} (x : BitVec a) (y : BitVec b) (z : BitVec c) (i : Nat) :
    (x ++ (y ++ z)).getLsbD i =
      if i < c then z.getLsbD i else if i - c < b then y.getLsbD (i - c) else x.getLsbD (i - c - b) := by
  rw [BitVec.getLsbD_append, BitVec.getLsbD_append]
  split_ifs with h1 h2 h3 h4 h5 <;> first | rfl | omega | skip
  congr 1
  omega

/-- The middle field of three. -/
theorem extract_middle {a b c : Nat} (x : BitVec a) (y : BitVec b) (z : BitVec c) :
    (x ++ (y ++ z)).extractLsb' c b = y := by
  ext i hi
  rw [BitVec.getElem_extractLsb', getLsbD_three]
  have h1 : ¬ c + i < c := by omega
  have h2 : c + i - c = i := by omega
  simp [h1, h2, hi]

/-- The low field of three. -/
theorem extract_low {a b c : Nat} (x : BitVec a) (y : BitVec b) (z : BitVec c) :
    (x ++ (y ++ z)).extractLsb' 0 c = z := by
  ext i hi
  rw [BitVec.getElem_extractLsb', getLsbD_three]
  simp [hi]

/-- The high field of three. -/
theorem extract_high {a b c : Nat} (x : BitVec a) (y : BitVec b) (z : BitVec c) :
    (x ++ (y ++ z)).extractLsb' (c + b) a = x := by
  ext i hi
  rw [BitVec.getElem_extractLsb', getLsbD_three]
  have h1 : ¬ c + b + i < c := by omega
  have h2 : ¬ c + b + i - c < b := by omega
  have h3 : c + b + i - c - b = i := by omega
  simp [h1, h2, h3, hi]

theorem bcmdWord_bop (b : Bop) (last : Bool) (data : Byte) : (bcmdWord b last data).extractLsb' 9 3 = b.code :=
  extract_high b.code (BitVec.ofBool last) data

theorem bcmdWord_last (b : Bop) (last : Bool) (data : Byte) : (bcmdWord b last data).getLsbD 8 = last := by
  refine (getLsbD_three b.code (BitVec.ofBool last) data 8).trans ?_
  cases last <;> rfl

theorem bcmdWord_data (b : Bop) (last : Bool) (data : Byte) : (bcmdWord b last data).extractLsb' 0 8 = data :=
  extract_low b.code (BitVec.ofBool last) data

@[simp] theorem decode_init : decode (.b (bcmdWord .init false 0)) = .ok .bInit := rfl
@[simp] theorem decode_start : decode (.b (bcmdWord .start false 0)) = .ok .bStart := rfl
@[simp] theorem decode_stop : decode (.b (bcmdWord .stop false 0)) = .ok .bStop := rfl

@[simp] theorem decode_out (data : Byte) : decode (.b (bcmdWord .out false data)) = .ok (.bOut data) := by
  simp only [decode, decodeByte, bcmdWord_bop, bcmdWord_last, bcmdWord_data, Bop.code]
  rfl

@[simp] theorem decode_inp (last : Bool) : decode (.b (bcmdWord .inp last 0)) = .ok (.bIn last) := by
  cases last <;> rfl

/-- Every host port word is an operation (R101). -/
@[simp] theorem decode_host (req : BitVec 43) : decode (.h req) = .ok (decodeHost req) := rfl

theorem hostWord_we (c : CycleIn) : c.hostWord.getLsbD 42 = c.hWe := by
  refine (getLsbD_three (BitVec.ofBool c.hWe) c.hIdx c.hWdata 42).trans ?_
  cases c.hWe <;> rfl

theorem hostWord_idx (c : CycleIn) : c.hostWord.extractLsb' 32 10 = c.hIdx :=
  extract_middle (BitVec.ofBool c.hWe) c.hIdx c.hWdata

theorem hostWord_data (c : CycleIn) : c.hostWord.extractLsb' 0 32 = c.hWdata :=
  extract_low (BitVec.ofBool c.hWe) c.hIdx c.hWdata

/-- The request on the port, read by the decoder (R95). -/
theorem decodeHost_hostWord (c : CycleIn) :
    decodeHost c.hostWord =
      if c.hWe then (if c.hIdx = 0#10 ∧ c.hWdata.getLsbD 0 then .transaction else .hwrite c.hIdx c.hWdata)
      else .hread c.hIdx := by
  simp only [decodeHost, hostWord_we, hostWord_idx, hostWord_data]

end Machine

end Sys2Proof
end

