-- ==== Sys2Proof/Laws/State.lean ====
section
/-! SUPPORT. One lemma per field per update of the state, true by unfolding the update once. -/

namespace Sys2Proof.Machine.State

variable (s : Machine.State)

/-! ### `setPc` -/

@[simp] theorem setPc_par (q : Seq) (u : BitVec 6) : (s.setPc q u).par = s.par := rfl
@[simp] theorem setPc_sclDir (q : Seq) (u : BitVec 6) : (s.setPc q u).sclDir = s.sclDir := rfl
@[simp] theorem setPc_sclVal (q : Seq) (u : BitVec 6) : (s.setPc q u).sclVal = s.sclVal := rfl
@[simp] theorem setPc_sdaDir (q : Seq) (u : BitVec 6) : (s.setPc q u).sdaDir = s.sdaDir := rfl
@[simp] theorem setPc_bop (q : Seq) (u : BitVec 6) : (s.setPc q u).bop = s.bop := rfl
@[simp] theorem setPc_bdata (q : Seq) (u : BitVec 6) : (s.setPc q u).bdata = s.bdata := rfl
@[simp] theorem setPc_blast (q : Seq) (u : BitVec 6) : (s.setPc q u).blast = s.blast := rfl
@[simp] theorem setPc_ack (q : Seq) (u : BitVec 6) : (s.setPc q u).ack = s.ack := rfl
@[simp] theorem setPc_a7 (q : Seq) (u : BitVec 6) : (s.setPc q u).a7 = s.a7 := rfl
@[simp] theorem setPc_widx (q : Seq) (u : BitVec 6) : (s.setPc q u).widx = s.widx := rfl
@[simp] theorem setPc_ridx (q : Seq) (u : BitVec 6) : (s.setPc q u).ridx = s.ridx := rfl
@[simp] theorem setPc_tries (q : Seq) (u : BitVec 6) : (s.setPc q u).tries = s.tries := rfl
@[simp] theorem setPc_seq (q : Seq) (u : BitVec 6) : (s.setPc q u).seq = q := rfl
@[simp] theorem setPc_ustep (q : Seq) (u : BitVec 6) : (s.setPc q u).ustep = u := rfl
@[simp] theorem setPc_dly (q : Seq) (u : BitVec 6) : (s.setPc q u).dly = s.dly := rfl
@[simp] theorem setPc_wcnt (q : Seq) (u : BitVec 6) : (s.setPc q u).wcnt = s.wcnt := rfl
@[simp] theorem setPc_cfg (q : Seq) (u : BitVec 6) : (s.setPc q u).cfg = s.cfg := rfl
@[simp] theorem setPc_addr (q : Seq) (u : BitVec 6) : (s.setPc q u).addr = s.addr := rfl
@[simp] theorem setPc_wlen (q : Seq) (u : BitVec 6) : (s.setPc q u).wlen = s.wlen := rfl
@[simp] theorem setPc_rlen (q : Seq) (u : BitVec 6) : (s.setPc q u).rlen = s.rlen := rfl
@[simp] theorem setPc_retry (q : Seq) (u : BitVec 6) : (s.setPc q u).retry = s.retry := rfl
@[simp] theorem setPc_wait (q : Seq) (u : BitVec 6) : (s.setPc q u).wait = s.wait := rfl
@[simp] theorem setPc_qdelay (q : Seq) (u : BitVec 6) : (s.setPc q u).qdelay = s.qdelay := rfl
@[simp] theorem setPc_busy (q : Seq) (u : BitVec 6) : (s.setPc q u).busy = s.busy := rfl
@[simp] theorem setPc_done (q : Seq) (u : BitVec 6) : (s.setPc q u).done = s.done := rfl
@[simp] theorem setPc_ok (q : Seq) (u : BitVec 6) : (s.setPc q u).ok = s.ok := rfl
@[simp] theorem setPc_nakSeen (q : Seq) (u : BitVec 6) : (s.setPc q u).nakSeen = s.nakSeen := rfl
@[simp] theorem setPc_rderrSeen (q : Seq) (u : BitVec 6) : (s.setPc q u).rderrSeen = s.rderrSeen := rfl
@[simp] theorem setPc_fault (q : Seq) (u : BitVec 6) : (s.setPc q u).fault = s.fault := rfl
@[simp] theorem setPc_startOpen (q : Seq) (u : BitVec 6) : (s.setPc q u).startOpen = s.startOpen := rfl
@[simp] theorem setPc_failCode (q : Seq) (u : BitVec 6) : (s.setPc q u).failCode = s.failCode := rfl
@[simp] theorem setPc_rxcnt (q : Seq) (u : BitVec 6) : (s.setPc q u).rxcnt = s.rxcnt := rfl
@[simp] theorem setPc_failIndex (q : Seq) (u : BitVec 6) : (s.setPc q u).failIndex = s.failIndex := rfl
@[simp] theorem setPc_failByte (q : Seq) (u : BitVec 6) : (s.setPc q u).failByte = s.failByte := rfl
@[simp] theorem setPc_txbuf (q : Seq) (u : BitVec 6) : (s.setPc q u).txbuf = s.txbuf := rfl
@[simp] theorem setPc_rxbuf (q : Seq) (u : BitVec 6) : (s.setPc q u).rxbuf = s.rxbuf := rfl
@[simp] theorem setPc_hRdata (q : Seq) (u : BitVec 6) : (s.setPc q u).hRdata = s.hRdata := rfl
@[simp] theorem setPc_ins (q : Seq) (u : BitVec 6) : (s.setPc q u).ins = s.ins := rfl
@[simp] theorem setPc_cycle (q : Seq) (u : BitVec 6) : (s.setPc q u).cycle = s.cycle := rfl
@[simp] theorem setPc_epoch (q : Seq) (u : BitVec 6) : (s.setPc q u).epoch = s.epoch := rfl

/-! ### `startCommand` -/

@[simp] theorem startCommand_par (b : Bop) (l : Bool) (d : Byte) : (s.startCommand b l d).par = s.par := rfl
@[simp] theorem startCommand_sclDir (b : Bop) (l : Bool) (d : Byte) : (s.startCommand b l d).sclDir = s.sclDir := rfl
@[simp] theorem startCommand_sclVal (b : Bop) (l : Bool) (d : Byte) : (s.startCommand b l d).sclVal = s.sclVal := rfl
@[simp] theorem startCommand_sdaDir (b : Bop) (l : Bool) (d : Byte) : (s.startCommand b l d).sdaDir = s.sdaDir := rfl
@[simp] theorem startCommand_bop (b : Bop) (l : Bool) (d : Byte) : (s.startCommand b l d).bop = b := rfl
@[simp] theorem startCommand_bdata (b : Bop) (l : Bool) (d : Byte) : (s.startCommand b l d).bdata = d := rfl
@[simp] theorem startCommand_blast (b : Bop) (l : Bool) (d : Byte) : (s.startCommand b l d).blast = l := rfl
@[simp] theorem startCommand_ack (b : Bop) (l : Bool) (d : Byte) : (s.startCommand b l d).ack = s.ack := rfl
@[simp] theorem startCommand_a7 (b : Bop) (l : Bool) (d : Byte) : (s.startCommand b l d).a7 = s.a7 := rfl
@[simp] theorem startCommand_widx (b : Bop) (l : Bool) (d : Byte) : (s.startCommand b l d).widx = s.widx := rfl
@[simp] theorem startCommand_ridx (b : Bop) (l : Bool) (d : Byte) : (s.startCommand b l d).ridx = s.ridx := rfl
@[simp] theorem startCommand_tries (b : Bop) (l : Bool) (d : Byte) : (s.startCommand b l d).tries = s.tries := rfl
@[simp] theorem startCommand_seq (b : Bop) (l : Bool) (d : Byte) : (s.startCommand b l d).seq = s.seq := rfl
@[simp] theorem startCommand_ustep (b : Bop) (l : Bool) (d : Byte) : (s.startCommand b l d).ustep = 0 := rfl
@[simp] theorem startCommand_dly (b : Bop) (l : Bool) (d : Byte) : (s.startCommand b l d).dly = s.dly := rfl
@[simp] theorem startCommand_wcnt (b : Bop) (l : Bool) (d : Byte) : (s.startCommand b l d).wcnt = s.wcnt := rfl
@[simp] theorem startCommand_cfg (b : Bop) (l : Bool) (d : Byte) : (s.startCommand b l d).cfg = s.cfg := rfl
@[simp] theorem startCommand_addr (b : Bop) (l : Bool) (d : Byte) : (s.startCommand b l d).addr = s.addr := rfl
@[simp] theorem startCommand_wlen (b : Bop) (l : Bool) (d : Byte) : (s.startCommand b l d).wlen = s.wlen := rfl
@[simp] theorem startCommand_rlen (b : Bop) (l : Bool) (d : Byte) : (s.startCommand b l d).rlen = s.rlen := rfl
@[simp] theorem startCommand_retry (b : Bop) (l : Bool) (d : Byte) : (s.startCommand b l d).retry = s.retry := rfl
@[simp] theorem startCommand_wait (b : Bop) (l : Bool) (d : Byte) : (s.startCommand b l d).wait = s.wait := rfl
@[simp] theorem startCommand_qdelay (b : Bop) (l : Bool) (d : Byte) : (s.startCommand b l d).qdelay = s.qdelay := rfl
@[simp] theorem startCommand_busy (b : Bop) (l : Bool) (d : Byte) : (s.startCommand b l d).busy = s.busy := rfl
@[simp] theorem startCommand_done (b : Bop) (l : Bool) (d : Byte) : (s.startCommand b l d).done = s.done := rfl
@[simp] theorem startCommand_ok (b : Bop) (l : Bool) (d : Byte) : (s.startCommand b l d).ok = s.ok := rfl
@[simp] theorem startCommand_nakSeen (b : Bop) (l : Bool) (d : Byte) : (s.startCommand b l d).nakSeen = s.nakSeen := rfl
@[simp] theorem startCommand_rderrSeen (b : Bop) (l : Bool) (d : Byte) : (s.startCommand b l d).rderrSeen = s.rderrSeen := rfl
@[simp] theorem startCommand_fault (b : Bop) (l : Bool) (d : Byte) : (s.startCommand b l d).fault = s.fault := rfl
@[simp] theorem startCommand_startOpen (b : Bop) (l : Bool) (d : Byte) : (s.startCommand b l d).startOpen = s.startOpen := rfl
@[simp] theorem startCommand_failCode (b : Bop) (l : Bool) (d : Byte) : (s.startCommand b l d).failCode = s.failCode := rfl
@[simp] theorem startCommand_rxcnt (b : Bop) (l : Bool) (d : Byte) : (s.startCommand b l d).rxcnt = s.rxcnt := rfl
@[simp] theorem startCommand_failIndex (b : Bop) (l : Bool) (d : Byte) : (s.startCommand b l d).failIndex = s.failIndex := rfl
@[simp] theorem startCommand_failByte (b : Bop) (l : Bool) (d : Byte) : (s.startCommand b l d).failByte = s.failByte := rfl
@[simp] theorem startCommand_txbuf (b : Bop) (l : Bool) (d : Byte) : (s.startCommand b l d).txbuf = s.txbuf := rfl
@[simp] theorem startCommand_rxbuf (b : Bop) (l : Bool) (d : Byte) : (s.startCommand b l d).rxbuf = s.rxbuf := rfl
@[simp] theorem startCommand_hRdata (b : Bop) (l : Bool) (d : Byte) : (s.startCommand b l d).hRdata = s.hRdata := rfl
@[simp] theorem startCommand_ins (b : Bop) (l : Bool) (d : Byte) : (s.startCommand b l d).ins = s.ins := rfl
@[simp] theorem startCommand_cycle (b : Bop) (l : Bool) (d : Byte) : (s.startCommand b l d).cycle = s.cycle := rfl
@[simp] theorem startCommand_epoch (b : Bop) (l : Bool) (d : Byte) : (s.startCommand b l d).epoch = s.epoch := rfl

/-! ### `raiseFail` -/

@[simp] theorem raiseFail_par (c : FailCode) (i : BitVec 9) (d : Byte) : (s.raiseFail c i d).par = s.par := rfl
@[simp] theorem raiseFail_sclDir (c : FailCode) (i : BitVec 9) (d : Byte) : (s.raiseFail c i d).sclDir = s.sclDir := rfl
@[simp] theorem raiseFail_sclVal (c : FailCode) (i : BitVec 9) (d : Byte) : (s.raiseFail c i d).sclVal = s.sclVal := rfl
@[simp] theorem raiseFail_sdaDir (c : FailCode) (i : BitVec 9) (d : Byte) : (s.raiseFail c i d).sdaDir = s.sdaDir := rfl
@[simp] theorem raiseFail_bop (c : FailCode) (i : BitVec 9) (d : Byte) : (s.raiseFail c i d).bop = s.bop := rfl
@[simp] theorem raiseFail_bdata (c : FailCode) (i : BitVec 9) (d : Byte) : (s.raiseFail c i d).bdata = s.bdata := rfl
@[simp] theorem raiseFail_blast (c : FailCode) (i : BitVec 9) (d : Byte) : (s.raiseFail c i d).blast = s.blast := rfl
@[simp] theorem raiseFail_ack (c : FailCode) (i : BitVec 9) (d : Byte) : (s.raiseFail c i d).ack = s.ack := rfl
@[simp] theorem raiseFail_a7 (c : FailCode) (i : BitVec 9) (d : Byte) : (s.raiseFail c i d).a7 = s.a7 := rfl
@[simp] theorem raiseFail_widx (c : FailCode) (i : BitVec 9) (d : Byte) : (s.raiseFail c i d).widx = s.widx := rfl
@[simp] theorem raiseFail_ridx (c : FailCode) (i : BitVec 9) (d : Byte) : (s.raiseFail c i d).ridx = s.ridx := rfl
@[simp] theorem raiseFail_tries (c : FailCode) (i : BitVec 9) (d : Byte) : (s.raiseFail c i d).tries = s.tries := rfl
@[simp] theorem raiseFail_seq (c : FailCode) (i : BitVec 9) (d : Byte) : (s.raiseFail c i d).seq = s.seq := rfl
@[simp] theorem raiseFail_ustep (c : FailCode) (i : BitVec 9) (d : Byte) : (s.raiseFail c i d).ustep = s.ustep := rfl
@[simp] theorem raiseFail_dly (c : FailCode) (i : BitVec 9) (d : Byte) : (s.raiseFail c i d).dly = s.dly := rfl
@[simp] theorem raiseFail_wcnt (c : FailCode) (i : BitVec 9) (d : Byte) : (s.raiseFail c i d).wcnt = s.wcnt := rfl
@[simp] theorem raiseFail_cfg (c : FailCode) (i : BitVec 9) (d : Byte) : (s.raiseFail c i d).cfg = s.cfg := rfl
@[simp] theorem raiseFail_addr (c : FailCode) (i : BitVec 9) (d : Byte) : (s.raiseFail c i d).addr = s.addr := rfl
@[simp] theorem raiseFail_wlen (c : FailCode) (i : BitVec 9) (d : Byte) : (s.raiseFail c i d).wlen = s.wlen := rfl
@[simp] theorem raiseFail_rlen (c : FailCode) (i : BitVec 9) (d : Byte) : (s.raiseFail c i d).rlen = s.rlen := rfl
@[simp] theorem raiseFail_retry (c : FailCode) (i : BitVec 9) (d : Byte) : (s.raiseFail c i d).retry = s.retry := rfl
@[simp] theorem raiseFail_wait (c : FailCode) (i : BitVec 9) (d : Byte) : (s.raiseFail c i d).wait = s.wait := rfl
@[simp] theorem raiseFail_qdelay (c : FailCode) (i : BitVec 9) (d : Byte) : (s.raiseFail c i d).qdelay = s.qdelay := rfl
@[simp] theorem raiseFail_busy (c : FailCode) (i : BitVec 9) (d : Byte) : (s.raiseFail c i d).busy = s.busy := rfl
@[simp] theorem raiseFail_done (c : FailCode) (i : BitVec 9) (d : Byte) : (s.raiseFail c i d).done = s.done := rfl
@[simp] theorem raiseFail_ok (c : FailCode) (i : BitVec 9) (d : Byte) : (s.raiseFail c i d).ok = s.ok := rfl
@[simp] theorem raiseFail_nakSeen (c : FailCode) (i : BitVec 9) (d : Byte) : (s.raiseFail c i d).nakSeen = s.nakSeen := rfl
@[simp] theorem raiseFail_rderrSeen (c : FailCode) (i : BitVec 9) (d : Byte) : (s.raiseFail c i d).rderrSeen = s.rderrSeen := rfl
@[simp] theorem raiseFail_fault (c : FailCode) (i : BitVec 9) (d : Byte) : (s.raiseFail c i d).fault = s.fault := rfl
@[simp] theorem raiseFail_startOpen (c : FailCode) (i : BitVec 9) (d : Byte) : (s.raiseFail c i d).startOpen = s.startOpen := rfl
@[simp] theorem raiseFail_failCode (c : FailCode) (i : BitVec 9) (d : Byte) : (s.raiseFail c i d).failCode = c := rfl
@[simp] theorem raiseFail_rxcnt (c : FailCode) (i : BitVec 9) (d : Byte) : (s.raiseFail c i d).rxcnt = s.rxcnt := rfl
@[simp] theorem raiseFail_failIndex (c : FailCode) (i : BitVec 9) (d : Byte) : (s.raiseFail c i d).failIndex = i := rfl
@[simp] theorem raiseFail_failByte (c : FailCode) (i : BitVec 9) (d : Byte) : (s.raiseFail c i d).failByte = d := rfl
@[simp] theorem raiseFail_txbuf (c : FailCode) (i : BitVec 9) (d : Byte) : (s.raiseFail c i d).txbuf = s.txbuf := rfl
@[simp] theorem raiseFail_rxbuf (c : FailCode) (i : BitVec 9) (d : Byte) : (s.raiseFail c i d).rxbuf = s.rxbuf := rfl
@[simp] theorem raiseFail_hRdata (c : FailCode) (i : BitVec 9) (d : Byte) : (s.raiseFail c i d).hRdata = s.hRdata := rfl
@[simp] theorem raiseFail_ins (c : FailCode) (i : BitVec 9) (d : Byte) : (s.raiseFail c i d).ins = s.ins := rfl
@[simp] theorem raiseFail_cycle (c : FailCode) (i : BitVec 9) (d : Byte) : (s.raiseFail c i d).cycle = s.cycle := rfl
@[simp] theorem raiseFail_epoch (c : FailCode) (i : BitVec 9) (d : Byte) : (s.raiseFail c i d).epoch = s.epoch := rfl

/-! ### `fatalAbort` -/

@[simp] theorem fatalAbort_par : (s.fatalAbort).par = s.par := rfl
@[simp] theorem fatalAbort_sclDir : (s.fatalAbort).sclDir = .inp := rfl
@[simp] theorem fatalAbort_sclVal : (s.fatalAbort).sclVal = s.sclVal := rfl
@[simp] theorem fatalAbort_sdaDir : (s.fatalAbort).sdaDir = .inp := rfl
@[simp] theorem fatalAbort_bop : (s.fatalAbort).bop = s.bop := rfl
@[simp] theorem fatalAbort_bdata : (s.fatalAbort).bdata = s.bdata := rfl
@[simp] theorem fatalAbort_blast : (s.fatalAbort).blast = s.blast := rfl
@[simp] theorem fatalAbort_ack : (s.fatalAbort).ack = s.ack := rfl
@[simp] theorem fatalAbort_a7 : (s.fatalAbort).a7 = s.a7 := rfl
@[simp] theorem fatalAbort_widx : (s.fatalAbort).widx = s.widx := rfl
@[simp] theorem fatalAbort_ridx : (s.fatalAbort).ridx = s.ridx := rfl
@[simp] theorem fatalAbort_tries : (s.fatalAbort).tries = s.tries := rfl
@[simp] theorem fatalAbort_seq : (s.fatalAbort).seq = .fault := rfl
@[simp] theorem fatalAbort_ustep : (s.fatalAbort).ustep = s.ustep := rfl
@[simp] theorem fatalAbort_dly : (s.fatalAbort).dly = 0 := rfl
@[simp] theorem fatalAbort_wcnt : (s.fatalAbort).wcnt = 0 := rfl
@[simp] theorem fatalAbort_cfg : (s.fatalAbort).cfg = s.cfg := rfl
@[simp] theorem fatalAbort_addr : (s.fatalAbort).addr = s.addr := rfl
@[simp] theorem fatalAbort_wlen : (s.fatalAbort).wlen = s.wlen := rfl
@[simp] theorem fatalAbort_rlen : (s.fatalAbort).rlen = s.rlen := rfl
@[simp] theorem fatalAbort_retry : (s.fatalAbort).retry = s.retry := rfl
@[simp] theorem fatalAbort_wait : (s.fatalAbort).wait = s.wait := rfl
@[simp] theorem fatalAbort_qdelay : (s.fatalAbort).qdelay = s.qdelay := rfl
@[simp] theorem fatalAbort_busy : (s.fatalAbort).busy = false := rfl
@[simp] theorem fatalAbort_done : (s.fatalAbort).done = true := rfl
@[simp] theorem fatalAbort_ok : (s.fatalAbort).ok = false := rfl
@[simp] theorem fatalAbort_nakSeen : (s.fatalAbort).nakSeen = s.nakSeen := rfl
@[simp] theorem fatalAbort_rderrSeen : (s.fatalAbort).rderrSeen = s.rderrSeen := rfl
@[simp] theorem fatalAbort_fault : (s.fatalAbort).fault = true := rfl
@[simp] theorem fatalAbort_startOpen : (s.fatalAbort).startOpen = s.startOpen := rfl
@[simp] theorem fatalAbort_failCode : (s.fatalAbort).failCode = .lineWr := rfl
@[simp] theorem fatalAbort_rxcnt : (s.fatalAbort).rxcnt = s.rxcnt := rfl
@[simp] theorem fatalAbort_failIndex : (s.fatalAbort).failIndex = 0 := rfl
@[simp] theorem fatalAbort_failByte : (s.fatalAbort).failByte = 0 := rfl
@[simp] theorem fatalAbort_txbuf : (s.fatalAbort).txbuf = s.txbuf := rfl
@[simp] theorem fatalAbort_rxbuf : (s.fatalAbort).rxbuf = s.rxbuf := rfl
@[simp] theorem fatalAbort_hRdata : (s.fatalAbort).hRdata = s.hRdata := rfl
@[simp] theorem fatalAbort_ins : (s.fatalAbort).ins = s.ins := rfl
@[simp] theorem fatalAbort_cycle : (s.fatalAbort).cycle = s.cycle := rfl
@[simp] theorem fatalAbort_epoch : (s.fatalAbort).epoch = s.epoch := rfl

/-! ### `finish` -/

@[simp] theorem finish_par (k : Bool) : (s.finish k).par = s.par := rfl
@[simp] theorem finish_sclDir (k : Bool) : (s.finish k).sclDir = s.sclDir := rfl
@[simp] theorem finish_sclVal (k : Bool) : (s.finish k).sclVal = s.sclVal := rfl
@[simp] theorem finish_sdaDir (k : Bool) : (s.finish k).sdaDir = s.sdaDir := rfl
@[simp] theorem finish_bop (k : Bool) : (s.finish k).bop = s.bop := rfl
@[simp] theorem finish_bdata (k : Bool) : (s.finish k).bdata = s.bdata := rfl
@[simp] theorem finish_blast (k : Bool) : (s.finish k).blast = s.blast := rfl
@[simp] theorem finish_ack (k : Bool) : (s.finish k).ack = s.ack := rfl
@[simp] theorem finish_a7 (k : Bool) : (s.finish k).a7 = s.a7 := rfl
@[simp] theorem finish_widx (k : Bool) : (s.finish k).widx = s.widx := rfl
@[simp] theorem finish_ridx (k : Bool) : (s.finish k).ridx = s.ridx := rfl
@[simp] theorem finish_tries (k : Bool) : (s.finish k).tries = s.tries := rfl
@[simp] theorem finish_seq (k : Bool) : (s.finish k).seq = .idle := rfl
@[simp] theorem finish_ustep (k : Bool) : (s.finish k).ustep = 0 := rfl
@[simp] theorem finish_dly (k : Bool) : (s.finish k).dly = s.dly := rfl
@[simp] theorem finish_wcnt (k : Bool) : (s.finish k).wcnt = s.wcnt := rfl
@[simp] theorem finish_cfg (k : Bool) : (s.finish k).cfg = s.cfg := rfl
@[simp] theorem finish_addr (k : Bool) : (s.finish k).addr = s.addr := rfl
@[simp] theorem finish_wlen (k : Bool) : (s.finish k).wlen = s.wlen := rfl
@[simp] theorem finish_rlen (k : Bool) : (s.finish k).rlen = s.rlen := rfl
@[simp] theorem finish_retry (k : Bool) : (s.finish k).retry = s.retry := rfl
@[simp] theorem finish_wait (k : Bool) : (s.finish k).wait = s.wait := rfl
@[simp] theorem finish_qdelay (k : Bool) : (s.finish k).qdelay = s.qdelay := rfl
@[simp] theorem finish_busy (k : Bool) : (s.finish k).busy = false := rfl
@[simp] theorem finish_done (k : Bool) : (s.finish k).done = true := rfl
@[simp] theorem finish_ok (k : Bool) : (s.finish k).ok = k := rfl
@[simp] theorem finish_nakSeen (k : Bool) : (s.finish k).nakSeen = s.nakSeen := rfl
@[simp] theorem finish_rderrSeen (k : Bool) : (s.finish k).rderrSeen = s.rderrSeen := rfl
@[simp] theorem finish_fault (k : Bool) : (s.finish k).fault = s.fault := rfl
@[simp] theorem finish_startOpen (k : Bool) : (s.finish k).startOpen = s.startOpen := rfl
@[simp] theorem finish_failCode (k : Bool) : (s.finish k).failCode = s.failCode := rfl
@[simp] theorem finish_rxcnt (k : Bool) : (s.finish k).rxcnt = s.rxcnt := rfl
@[simp] theorem finish_failIndex (k : Bool) : (s.finish k).failIndex = s.failIndex := rfl
@[simp] theorem finish_failByte (k : Bool) : (s.finish k).failByte = s.failByte := rfl
@[simp] theorem finish_txbuf (k : Bool) : (s.finish k).txbuf = s.txbuf := rfl
@[simp] theorem finish_rxbuf (k : Bool) : (s.finish k).rxbuf = s.rxbuf := rfl
@[simp] theorem finish_hRdata (k : Bool) : (s.finish k).hRdata = s.hRdata := rfl
@[simp] theorem finish_ins (k : Bool) : (s.finish k).ins = s.ins := rfl
@[simp] theorem finish_cycle (k : Bool) : (s.finish k).cycle = s.cycle := rfl
@[simp] theorem finish_epoch (k : Bool) : (s.finish k).epoch = s.epoch := rfl

/-! ### `clearResults` -/

@[simp] theorem clearResults_par : (s.clearResults).par = s.par := rfl
@[simp] theorem clearResults_sclDir : (s.clearResults).sclDir = s.sclDir := rfl
@[simp] theorem clearResults_sclVal : (s.clearResults).sclVal = s.sclVal := rfl
@[simp] theorem clearResults_sdaDir : (s.clearResults).sdaDir = s.sdaDir := rfl
@[simp] theorem clearResults_bop : (s.clearResults).bop = s.bop := rfl
@[simp] theorem clearResults_bdata : (s.clearResults).bdata = s.bdata := rfl
@[simp] theorem clearResults_blast : (s.clearResults).blast = s.blast := rfl
@[simp] theorem clearResults_ack : (s.clearResults).ack = s.ack := rfl
@[simp] theorem clearResults_a7 : (s.clearResults).a7 = s.a7 := rfl
@[simp] theorem clearResults_widx : (s.clearResults).widx = 0 := rfl
@[simp] theorem clearResults_ridx : (s.clearResults).ridx = 0 := rfl
@[simp] theorem clearResults_tries : (s.clearResults).tries = 0 := rfl
@[simp] theorem clearResults_seq : (s.clearResults).seq = s.seq := rfl
@[simp] theorem clearResults_ustep : (s.clearResults).ustep = s.ustep := rfl
@[simp] theorem clearResults_dly : (s.clearResults).dly = s.dly := rfl
@[simp] theorem clearResults_wcnt : (s.clearResults).wcnt = s.wcnt := rfl
@[simp] theorem clearResults_cfg : (s.clearResults).cfg = s.cfg := rfl
@[simp] theorem clearResults_addr : (s.clearResults).addr = s.addr := rfl
@[simp] theorem clearResults_wlen : (s.clearResults).wlen = s.wlen := rfl
@[simp] theorem clearResults_rlen : (s.clearResults).rlen = s.rlen := rfl
@[simp] theorem clearResults_retry : (s.clearResults).retry = s.retry := rfl
@[simp] theorem clearResults_wait : (s.clearResults).wait = s.wait := rfl
@[simp] theorem clearResults_qdelay : (s.clearResults).qdelay = s.qdelay := rfl
@[simp] theorem clearResults_busy : (s.clearResults).busy = s.busy := rfl
@[simp] theorem clearResults_done : (s.clearResults).done = false := rfl
@[simp] theorem clearResults_ok : (s.clearResults).ok = false := rfl
@[simp] theorem clearResults_nakSeen : (s.clearResults).nakSeen = false := rfl
@[simp] theorem clearResults_rderrSeen : (s.clearResults).rderrSeen = false := rfl
@[simp] theorem clearResults_fault : (s.clearResults).fault = s.fault := rfl
@[simp] theorem clearResults_startOpen : (s.clearResults).startOpen = s.startOpen := rfl
@[simp] theorem clearResults_failCode : (s.clearResults).failCode = .none := rfl
@[simp] theorem clearResults_rxcnt : (s.clearResults).rxcnt = 0 := rfl
@[simp] theorem clearResults_failIndex : (s.clearResults).failIndex = 0 := rfl
@[simp] theorem clearResults_failByte : (s.clearResults).failByte = 0 := rfl
@[simp] theorem clearResults_txbuf : (s.clearResults).txbuf = s.txbuf := rfl
@[simp] theorem clearResults_rxbuf : (s.clearResults).rxbuf = s.rxbuf := rfl
@[simp] theorem clearResults_hRdata : (s.clearResults).hRdata = s.hRdata := rfl
@[simp] theorem clearResults_ins : (s.clearResults).ins = s.ins := rfl
@[simp] theorem clearResults_cycle : (s.clearResults).cycle = s.cycle := rfl
@[simp] theorem clearResults_epoch : (s.clearResults).epoch = s.epoch := rfl

/-! ### `noteNak` -/

@[simp] theorem noteNak_par : (s.noteNak).par = s.par := rfl
@[simp] theorem noteNak_sclDir : (s.noteNak).sclDir = s.sclDir := rfl
@[simp] theorem noteNak_sclVal : (s.noteNak).sclVal = s.sclVal := rfl
@[simp] theorem noteNak_sdaDir : (s.noteNak).sdaDir = s.sdaDir := rfl
@[simp] theorem noteNak_bop : (s.noteNak).bop = s.bop := rfl
@[simp] theorem noteNak_bdata : (s.noteNak).bdata = s.bdata := rfl
@[simp] theorem noteNak_blast : (s.noteNak).blast = s.blast := rfl
@[simp] theorem noteNak_ack : (s.noteNak).ack = s.ack := rfl
@[simp] theorem noteNak_a7 : (s.noteNak).a7 = s.a7 := rfl
@[simp] theorem noteNak_widx : (s.noteNak).widx = s.widx := rfl
@[simp] theorem noteNak_ridx : (s.noteNak).ridx = s.ridx := rfl
@[simp] theorem noteNak_tries : (s.noteNak).tries = s.tries := rfl
@[simp] theorem noteNak_seq : (s.noteNak).seq = s.seq := rfl
@[simp] theorem noteNak_ustep : (s.noteNak).ustep = s.ustep := rfl
@[simp] theorem noteNak_dly : (s.noteNak).dly = s.dly := rfl
@[simp] theorem noteNak_wcnt : (s.noteNak).wcnt = s.wcnt := rfl
@[simp] theorem noteNak_cfg : (s.noteNak).cfg = s.cfg := rfl
@[simp] theorem noteNak_addr : (s.noteNak).addr = s.addr := rfl
@[simp] theorem noteNak_wlen : (s.noteNak).wlen = s.wlen := rfl
@[simp] theorem noteNak_rlen : (s.noteNak).rlen = s.rlen := rfl
@[simp] theorem noteNak_retry : (s.noteNak).retry = s.retry := rfl
@[simp] theorem noteNak_wait : (s.noteNak).wait = s.wait := rfl
@[simp] theorem noteNak_qdelay : (s.noteNak).qdelay = s.qdelay := rfl
@[simp] theorem noteNak_busy : (s.noteNak).busy = s.busy := rfl
@[simp] theorem noteNak_done : (s.noteNak).done = s.done := rfl
@[simp] theorem noteNak_ok : (s.noteNak).ok = s.ok := rfl
@[simp] theorem noteNak_nakSeen : (s.noteNak).nakSeen = (s.nakSeen || !s.ack) := rfl
@[simp] theorem noteNak_rderrSeen : (s.noteNak).rderrSeen = s.rderrSeen := rfl
@[simp] theorem noteNak_fault : (s.noteNak).fault = s.fault := rfl
@[simp] theorem noteNak_startOpen : (s.noteNak).startOpen = s.startOpen := rfl
@[simp] theorem noteNak_failCode : (s.noteNak).failCode = s.failCode := rfl
@[simp] theorem noteNak_rxcnt : (s.noteNak).rxcnt = s.rxcnt := rfl
@[simp] theorem noteNak_failIndex : (s.noteNak).failIndex = s.failIndex := rfl
@[simp] theorem noteNak_failByte : (s.noteNak).failByte = s.failByte := rfl
@[simp] theorem noteNak_txbuf : (s.noteNak).txbuf = s.txbuf := rfl
@[simp] theorem noteNak_rxbuf : (s.noteNak).rxbuf = s.rxbuf := rfl
@[simp] theorem noteNak_hRdata : (s.noteNak).hRdata = s.hRdata := rfl
@[simp] theorem noteNak_ins : (s.noteNak).ins = s.ins := rfl
@[simp] theorem noteNak_cycle : (s.noteNak).cycle = s.cycle := rfl
@[simp] theorem noteNak_epoch : (s.noteNak).epoch = s.epoch := rfl

/-! ### `noReadData` -/

@[simp] theorem noReadData_par : (s.noReadData).par = s.par := rfl
@[simp] theorem noReadData_sclDir : (s.noReadData).sclDir = s.sclDir := rfl
@[simp] theorem noReadData_sclVal : (s.noReadData).sclVal = s.sclVal := rfl
@[simp] theorem noReadData_sdaDir : (s.noReadData).sdaDir = s.sdaDir := rfl
@[simp] theorem noReadData_bop : (s.noReadData).bop = s.bop := rfl
@[simp] theorem noReadData_bdata : (s.noReadData).bdata = s.bdata := rfl
@[simp] theorem noReadData_blast : (s.noReadData).blast = s.blast := rfl
@[simp] theorem noReadData_ack : (s.noReadData).ack = s.ack := rfl
@[simp] theorem noReadData_a7 : (s.noReadData).a7 = s.a7 := rfl
@[simp] theorem noReadData_widx : (s.noReadData).widx = s.widx := rfl
@[simp] theorem noReadData_ridx : (s.noReadData).ridx = s.ridx := rfl
@[simp] theorem noReadData_tries : (s.noReadData).tries = s.tries := rfl
@[simp] theorem noReadData_seq : (s.noReadData).seq = s.seq := rfl
@[simp] theorem noReadData_ustep : (s.noReadData).ustep = s.ustep := rfl
@[simp] theorem noReadData_dly : (s.noReadData).dly = s.dly := rfl
@[simp] theorem noReadData_wcnt : (s.noReadData).wcnt = s.wcnt := rfl
@[simp] theorem noReadData_cfg : (s.noReadData).cfg = s.cfg := rfl
@[simp] theorem noReadData_addr : (s.noReadData).addr = s.addr := rfl
@[simp] theorem noReadData_wlen : (s.noReadData).wlen = s.wlen := rfl
@[simp] theorem noReadData_rlen : (s.noReadData).rlen = s.rlen := rfl
@[simp] theorem noReadData_retry : (s.noReadData).retry = s.retry := rfl
@[simp] theorem noReadData_wait : (s.noReadData).wait = s.wait := rfl
@[simp] theorem noReadData_qdelay : (s.noReadData).qdelay = s.qdelay := rfl
@[simp] theorem noReadData_busy : (s.noReadData).busy = s.busy := rfl
@[simp] theorem noReadData_done : (s.noReadData).done = s.done := rfl
@[simp] theorem noReadData_ok : (s.noReadData).ok = s.ok := rfl
@[simp] theorem noReadData_nakSeen : (s.noReadData).nakSeen = s.nakSeen := rfl
@[simp] theorem noReadData_rderrSeen : (s.noReadData).rderrSeen = s.rderrSeen := rfl
@[simp] theorem noReadData_fault : (s.noReadData).fault = s.fault := rfl
@[simp] theorem noReadData_startOpen : (s.noReadData).startOpen = s.startOpen := rfl
@[simp] theorem noReadData_failCode : (s.noReadData).failCode = s.failCode := rfl
@[simp] theorem noReadData_rxcnt : (s.noReadData).rxcnt = s.rxcnt := rfl
@[simp] theorem noReadData_failIndex : (s.noReadData).failIndex = s.failIndex := rfl
@[simp] theorem noReadData_failByte : (s.noReadData).failByte = s.failByte := rfl
@[simp] theorem noReadData_txbuf : (s.noReadData).txbuf = s.txbuf := rfl
@[simp] theorem noReadData_rxbuf : (s.noReadData).rxbuf = s.rxbuf := rfl
@[simp] theorem noReadData_hRdata : (s.noReadData).hRdata = 0 := rfl
@[simp] theorem noReadData_ins : (s.noReadData).ins = s.ins := rfl
@[simp] theorem noReadData_cycle : (s.noReadData).cycle = s.cycle := rfl
@[simp] theorem noReadData_epoch : (s.noReadData).epoch = s.epoch := rfl

/-! ### `closeCycle` -/

@[simp] theorem closeCycle_par : (s.closeCycle).par = s.par := rfl
@[simp] theorem closeCycle_sclDir : (s.closeCycle).sclDir = s.sclDir := rfl
@[simp] theorem closeCycle_sclVal : (s.closeCycle).sclVal = s.sclVal := rfl
@[simp] theorem closeCycle_sdaDir : (s.closeCycle).sdaDir = s.sdaDir := rfl
@[simp] theorem closeCycle_bop : (s.closeCycle).bop = s.bop := rfl
@[simp] theorem closeCycle_bdata : (s.closeCycle).bdata = s.bdata := rfl
@[simp] theorem closeCycle_blast : (s.closeCycle).blast = s.blast := rfl
@[simp] theorem closeCycle_ack : (s.closeCycle).ack = s.ack := rfl
@[simp] theorem closeCycle_a7 : (s.closeCycle).a7 = s.a7 := rfl
@[simp] theorem closeCycle_widx : (s.closeCycle).widx = s.widx := rfl
@[simp] theorem closeCycle_ridx : (s.closeCycle).ridx = s.ridx := rfl
@[simp] theorem closeCycle_tries : (s.closeCycle).tries = s.tries := rfl
@[simp] theorem closeCycle_seq : (s.closeCycle).seq = s.seq := rfl
@[simp] theorem closeCycle_ustep : (s.closeCycle).ustep = s.ustep := rfl
@[simp] theorem closeCycle_dly : (s.closeCycle).dly = s.dly := rfl
@[simp] theorem closeCycle_wcnt : (s.closeCycle).wcnt = s.wcnt := rfl
@[simp] theorem closeCycle_cfg : (s.closeCycle).cfg = s.cfg := rfl
@[simp] theorem closeCycle_addr : (s.closeCycle).addr = s.addr := rfl
@[simp] theorem closeCycle_wlen : (s.closeCycle).wlen = s.wlen := rfl
@[simp] theorem closeCycle_rlen : (s.closeCycle).rlen = s.rlen := rfl
@[simp] theorem closeCycle_retry : (s.closeCycle).retry = s.retry := rfl
@[simp] theorem closeCycle_wait : (s.closeCycle).wait = s.wait := rfl
@[simp] theorem closeCycle_qdelay : (s.closeCycle).qdelay = s.qdelay := rfl
@[simp] theorem closeCycle_busy : (s.closeCycle).busy = s.busy := rfl
@[simp] theorem closeCycle_done : (s.closeCycle).done = s.done := rfl
@[simp] theorem closeCycle_ok : (s.closeCycle).ok = s.ok := rfl
@[simp] theorem closeCycle_nakSeen : (s.closeCycle).nakSeen = s.nakSeen := rfl
@[simp] theorem closeCycle_rderrSeen : (s.closeCycle).rderrSeen = s.rderrSeen := rfl
@[simp] theorem closeCycle_fault : (s.closeCycle).fault = s.fault := rfl
@[simp] theorem closeCycle_startOpen : (s.closeCycle).startOpen = s.startOpen := rfl
@[simp] theorem closeCycle_failCode : (s.closeCycle).failCode = s.failCode := rfl
@[simp] theorem closeCycle_rxcnt : (s.closeCycle).rxcnt = s.rxcnt := rfl
@[simp] theorem closeCycle_failIndex : (s.closeCycle).failIndex = s.failIndex := rfl
@[simp] theorem closeCycle_failByte : (s.closeCycle).failByte = s.failByte := rfl
@[simp] theorem closeCycle_txbuf : (s.closeCycle).txbuf = s.txbuf := rfl
@[simp] theorem closeCycle_rxbuf : (s.closeCycle).rxbuf = s.rxbuf := rfl
@[simp] theorem closeCycle_hRdata : (s.closeCycle).hRdata = s.hRdata := rfl
@[simp] theorem closeCycle_ins : (s.closeCycle).ins = s.ins.tail := rfl
@[simp] theorem closeCycle_cycle : (s.closeCycle).cycle = s.cycle + 1 := rfl
@[simp] theorem closeCycle_epoch : (s.closeCycle).epoch = s.epoch := rfl

/-! ### `afterUop` -/

@[simp] theorem afterUop_par : (s.afterUop).par = s.par := rfl
@[simp] theorem afterUop_sclDir : (s.afterUop).sclDir = s.sclDir := rfl
@[simp] theorem afterUop_sclVal : (s.afterUop).sclVal = s.sclVal := rfl
@[simp] theorem afterUop_sdaDir : (s.afterUop).sdaDir = s.sdaDir := rfl
@[simp] theorem afterUop_bop : (s.afterUop).bop = s.bop := rfl
@[simp] theorem afterUop_bdata : (s.afterUop).bdata = s.bdata := rfl
@[simp] theorem afterUop_blast : (s.afterUop).blast = s.blast := rfl
@[simp] theorem afterUop_ack : (s.afterUop).ack = s.ack := rfl
@[simp] theorem afterUop_a7 : (s.afterUop).a7 = s.a7 := rfl
@[simp] theorem afterUop_widx : (s.afterUop).widx = s.widx := rfl
@[simp] theorem afterUop_ridx : (s.afterUop).ridx = s.ridx := rfl
@[simp] theorem afterUop_tries : (s.afterUop).tries = s.tries := rfl
@[simp] theorem afterUop_seq : (s.afterUop).seq = s.seq := rfl
@[simp] theorem afterUop_ustep : (s.afterUop).ustep = s.ustep + 1 := rfl
@[simp] theorem afterUop_dly : (s.afterUop).dly = s.dly := rfl
@[simp] theorem afterUop_wcnt : (s.afterUop).wcnt = s.wcnt := rfl
@[simp] theorem afterUop_cfg : (s.afterUop).cfg = s.cfg := rfl
@[simp] theorem afterUop_addr : (s.afterUop).addr = s.addr := rfl
@[simp] theorem afterUop_wlen : (s.afterUop).wlen = s.wlen := rfl
@[simp] theorem afterUop_rlen : (s.afterUop).rlen = s.rlen := rfl
@[simp] theorem afterUop_retry : (s.afterUop).retry = s.retry := rfl
@[simp] theorem afterUop_wait : (s.afterUop).wait = s.wait := rfl
@[simp] theorem afterUop_qdelay : (s.afterUop).qdelay = s.qdelay := rfl
@[simp] theorem afterUop_busy : (s.afterUop).busy = s.busy := rfl
@[simp] theorem afterUop_done : (s.afterUop).done = s.done := rfl
@[simp] theorem afterUop_ok : (s.afterUop).ok = s.ok := rfl
@[simp] theorem afterUop_nakSeen : (s.afterUop).nakSeen = s.nakSeen := rfl
@[simp] theorem afterUop_rderrSeen : (s.afterUop).rderrSeen = s.rderrSeen := rfl
@[simp] theorem afterUop_fault : (s.afterUop).fault = s.fault := rfl
@[simp] theorem afterUop_failCode : (s.afterUop).failCode = s.failCode := rfl
@[simp] theorem afterUop_rxcnt : (s.afterUop).rxcnt = s.rxcnt := rfl
@[simp] theorem afterUop_failIndex : (s.afterUop).failIndex = s.failIndex := rfl
@[simp] theorem afterUop_failByte : (s.afterUop).failByte = s.failByte := rfl
@[simp] theorem afterUop_txbuf : (s.afterUop).txbuf = s.txbuf := rfl
@[simp] theorem afterUop_rxbuf : (s.afterUop).rxbuf = s.rxbuf := rfl
@[simp] theorem afterUop_hRdata : (s.afterUop).hRdata = s.hRdata := rfl
@[simp] theorem afterUop_ins : (s.afterUop).ins = s.ins := rfl
@[simp] theorem afterUop_cycle : (s.afterUop).cycle = s.cycle := rfl
@[simp] theorem afterUop_epoch : (s.afterUop).epoch = s.epoch := rfl

/-! ### `hostStore` writes the descriptor and `TXBUF` only (R67) -/

@[simp] theorem hostStore_par (idx : HostIdx) (v : Reg) : (s.hostStore idx v).par = s.par := by
  unfold State.hostStore; dsimp only; split_ifs <;> rfl
@[simp] theorem hostStore_sclDir (idx : HostIdx) (v : Reg) : (s.hostStore idx v).sclDir = s.sclDir := by
  unfold State.hostStore; dsimp only; split_ifs <;> rfl
@[simp] theorem hostStore_sclVal (idx : HostIdx) (v : Reg) : (s.hostStore idx v).sclVal = s.sclVal := by
  unfold State.hostStore; dsimp only; split_ifs <;> rfl
@[simp] theorem hostStore_sdaDir (idx : HostIdx) (v : Reg) : (s.hostStore idx v).sdaDir = s.sdaDir := by
  unfold State.hostStore; dsimp only; split_ifs <;> rfl
@[simp] theorem hostStore_bop (idx : HostIdx) (v : Reg) : (s.hostStore idx v).bop = s.bop := by
  unfold State.hostStore; dsimp only; split_ifs <;> rfl
@[simp] theorem hostStore_bdata (idx : HostIdx) (v : Reg) : (s.hostStore idx v).bdata = s.bdata := by
  unfold State.hostStore; dsimp only; split_ifs <;> rfl
@[simp] theorem hostStore_blast (idx : HostIdx) (v : Reg) : (s.hostStore idx v).blast = s.blast := by
  unfold State.hostStore; dsimp only; split_ifs <;> rfl
@[simp] theorem hostStore_ack (idx : HostIdx) (v : Reg) : (s.hostStore idx v).ack = s.ack := by
  unfold State.hostStore; dsimp only; split_ifs <;> rfl
@[simp] theorem hostStore_a7 (idx : HostIdx) (v : Reg) : (s.hostStore idx v).a7 = s.a7 := by
  unfold State.hostStore; dsimp only; split_ifs <;> rfl
@[simp] theorem hostStore_widx (idx : HostIdx) (v : Reg) : (s.hostStore idx v).widx = s.widx := by
  unfold State.hostStore; dsimp only; split_ifs <;> rfl
@[simp] theorem hostStore_ridx (idx : HostIdx) (v : Reg) : (s.hostStore idx v).ridx = s.ridx := by
  unfold State.hostStore; dsimp only; split_ifs <;> rfl
@[simp] theorem hostStore_tries (idx : HostIdx) (v : Reg) : (s.hostStore idx v).tries = s.tries := by
  unfold State.hostStore; dsimp only; split_ifs <;> rfl
@[simp] theorem hostStore_seq (idx : HostIdx) (v : Reg) : (s.hostStore idx v).seq = s.seq := by
  unfold State.hostStore; dsimp only; split_ifs <;> rfl
@[simp] theorem hostStore_ustep (idx : HostIdx) (v : Reg) : (s.hostStore idx v).ustep = s.ustep := by
  unfold State.hostStore; dsimp only; split_ifs <;> rfl
@[simp] theorem hostStore_dly (idx : HostIdx) (v : Reg) : (s.hostStore idx v).dly = s.dly := by
  unfold State.hostStore; dsimp only; split_ifs <;> rfl
@[simp] theorem hostStore_wcnt (idx : HostIdx) (v : Reg) : (s.hostStore idx v).wcnt = s.wcnt := by
  unfold State.hostStore; dsimp only; split_ifs <;> rfl
@[simp] theorem hostStore_busy (idx : HostIdx) (v : Reg) : (s.hostStore idx v).busy = s.busy := by
  unfold State.hostStore; dsimp only; split_ifs <;> rfl
@[simp] theorem hostStore_done (idx : HostIdx) (v : Reg) : (s.hostStore idx v).done = s.done := by
  unfold State.hostStore; dsimp only; split_ifs <;> rfl
@[simp] theorem hostStore_ok (idx : HostIdx) (v : Reg) : (s.hostStore idx v).ok = s.ok := by
  unfold State.hostStore; dsimp only; split_ifs <;> rfl
@[simp] theorem hostStore_nakSeen (idx : HostIdx) (v : Reg) : (s.hostStore idx v).nakSeen = s.nakSeen := by
  unfold State.hostStore; dsimp only; split_ifs <;> rfl
@[simp] theorem hostStore_rderrSeen (idx : HostIdx) (v : Reg) : (s.hostStore idx v).rderrSeen = s.rderrSeen := by
  unfold State.hostStore; dsimp only; split_ifs <;> rfl
@[simp] theorem hostStore_fault (idx : HostIdx) (v : Reg) : (s.hostStore idx v).fault = s.fault := by
  unfold State.hostStore; dsimp only; split_ifs <;> rfl
@[simp] theorem hostStore_startOpen (idx : HostIdx) (v : Reg) : (s.hostStore idx v).startOpen = s.startOpen := by
  unfold State.hostStore; dsimp only; split_ifs <;> rfl
@[simp] theorem hostStore_failCode (idx : HostIdx) (v : Reg) : (s.hostStore idx v).failCode = s.failCode := by
  unfold State.hostStore; dsimp only; split_ifs <;> rfl
@[simp] theorem hostStore_rxcnt (idx : HostIdx) (v : Reg) : (s.hostStore idx v).rxcnt = s.rxcnt := by
  unfold State.hostStore; dsimp only; split_ifs <;> rfl
@[simp] theorem hostStore_failIndex (idx : HostIdx) (v : Reg) : (s.hostStore idx v).failIndex = s.failIndex := by
  unfold State.hostStore; dsimp only; split_ifs <;> rfl
@[simp] theorem hostStore_failByte (idx : HostIdx) (v : Reg) : (s.hostStore idx v).failByte = s.failByte := by
  unfold State.hostStore; dsimp only; split_ifs <;> rfl
@[simp] theorem hostStore_rxbuf (idx : HostIdx) (v : Reg) : (s.hostStore idx v).rxbuf = s.rxbuf := by
  unfold State.hostStore; dsimp only; split_ifs <;> rfl
@[simp] theorem hostStore_hRdata (idx : HostIdx) (v : Reg) : (s.hostStore idx v).hRdata = s.hRdata := by
  unfold State.hostStore; dsimp only; split_ifs <;> rfl
@[simp] theorem hostStore_ins (idx : HostIdx) (v : Reg) : (s.hostStore idx v).ins = s.ins := by
  unfold State.hostStore; dsimp only; split_ifs <;> rfl
@[simp] theorem hostStore_cycle (idx : HostIdx) (v : Reg) : (s.hostStore idx v).cycle = s.cycle := by
  unfold State.hostStore; dsimp only; split_ifs <;> rfl
@[simp] theorem hostStore_epoch (idx : HostIdx) (v : Reg) : (s.hostStore idx v).epoch = s.epoch := by
  unfold State.hostStore; dsimp only; split_ifs <;> rfl

end Sys2Proof.Machine.State
end

