-- ==== Sys2Proof/Laws/Exec.lean ====
section
/-! SUPPORT. One spec lemma per shared operation of the engine: what a line op, entering a state and a completion step
do, as next states. -/

namespace Sys2Proof.Machine

/-! ### Outcomes -/

@[simp] theorem andThen_next (s : State) (f : State → Host.Outcome State Fault Refusal) :
    andThen (.next s) f = f s := rfl

@[simp] theorem andThen_fault (r : Fault) (f : State → Host.Outcome State Fault Refusal) :
    andThen (.fault r) f = .fault r := rfl

@[simp] theorem andThen_refused (r : Refusal) (f : State → Host.Outcome State Fault Refusal) :
    andThen (.refused r) f = .refused r := rfl

theorem andThen_eq_next {o : Host.Outcome State Fault Refusal} {f : State → Host.Outcome State Fault Refusal}
    {t : State} (h : andThen o f = .next t) : ∃ s, o = .next s ∧ f s = .next t := by
  cases o with
  | next s => exact ⟨s, rfl, h⟩
  | fault r => cases h
  | refused r => cases h

/-! ### Inputs -/

theorem inputAt_zero (s : State) : s.inputAt 0 = s.cur := rfl

theorem inputAt_closeCycle (s : State) (k : Nat) : s.closeCycle.inputAt k = s.inputAt (k + 1) := by
  simp [State.inputAt, State.closeCycle, Nat.add_comm, Nat.add_left_comm]

/-- Inputs are read off `ins` and `cycle` alone. -/
theorem inputAt_congr {s t : State} (hi : s.ins = t.ins) (hc : s.cycle = t.cycle) (k : Nat) :
    s.inputAt k = t.inputAt k := by
  simp [State.inputAt, hi, hc]

theorem cur_congr {s t : State} (hi : s.ins = t.ins) (hc : s.cycle = t.cycle) : s.cur = t.cur := by
  simp [State.cur, hi, hc]

/-! ### Line operations (R123 to R128) -/

/-- The micro-program names the five legal codes only (R101). -/
theorem uop_legal (b : Bop) (u : Nat) (d : Byte) (l : Bool) :
    uop b u d l = Lop.sclLo ∨ uop b u d l = Lop.sclHi ∨ uop b u d l = Lop.sdaLo ∨ uop b u d l = Lop.sdaHi
      ∨ uop b u d l = Lop.sdaRd := by
  cases b <;> simp only [uop, sdaOp] <;> split_ifs <;> simp

/-- What the line op the pc names does when its write does not fail (R123 to R127, R149, R152). -/
def State.lineOp (s : State) : State :=
  if s.lop = Lop.sclLo then { s with sclDir := .out, sclVal := false, dly := s.tail }
  else if s.lop = Lop.sclHi then
    (if s.forceSclHigh then { s with sclDir := .out, sclVal := true, dly := s.tail }
      else { s with sclDir := .inp, dly := s.tail })
  else if s.lop = Lop.sdaLo then { s with sdaDir := .out, dly := s.tail }
  else if s.lop = Lop.sdaHi then { s with sdaDir := .inp, dly := s.tail }
  else { s.deliver s.sample with rderrSeen := s.rderrSeen || s.cur.ioRdErr, dly := 0 }

/-! What `lineOp` is for each code, and what it leaves alone. -/

theorem lineOp_of_sclLo {s : State} (h : s.lop = Lop.sclLo) :
    s.lineOp = { s with sclDir := .out, sclVal := false, dly := s.tail } := if_pos h

theorem lineOp_of_sclHi {s : State} (h : s.lop = Lop.sclHi) :
    s.lineOp = (if s.forceSclHigh then { s with sclDir := .out, sclVal := true, dly := s.tail }
      else { s with sclDir := .inp, dly := s.tail }) :=
  (if_neg (by rw [h]; decide)).trans (if_pos h)

theorem lineOp_of_sdaLo {s : State} (h : s.lop = Lop.sdaLo) :
    s.lineOp = { s with sdaDir := .out, dly := s.tail } :=
  (if_neg (by rw [h]; decide)).trans ((if_neg (by rw [h]; decide)).trans (if_pos h))

theorem lineOp_of_sdaHi {s : State} (h : s.lop = Lop.sdaHi) :
    s.lineOp = { s with sdaDir := .inp, dly := s.tail } :=
  (if_neg (by rw [h]; decide)).trans ((if_neg (by rw [h]; decide)).trans ((if_neg (by rw [h]; decide)).trans (if_pos h)))

theorem lineOp_of_sdaRd {s : State} (h : s.lop = Lop.sdaRd) :
    s.lineOp = { s.deliver s.sample with rderrSeen := s.rderrSeen || s.cur.ioRdErr, dly := 0 } :=
  (if_neg (by rw [h]; decide)).trans ((if_neg (by rw [h]; decide)).trans ((if_neg (by rw [h]; decide)).trans
    (if_neg (by rw [h]; decide))))

/-- Delivering a sample writes `ack` or `bdata`, nothing else (R149, R152). -/
theorem deliver_eq (s : State) (level : Bool) :
    s.deliver level = { s with
      ack := if s.bop = .out then !level else s.ack
      bdata := if s.bop = .inp then s.bdata.extractLsb' 0 7 ++ BitVec.ofBool level else s.bdata } := by
  unfold State.deliver
  split <;> rename_i h <;> simp [h] <;> rw [← h]

/-- A line op writes the line it names, `dly`, and for a read `ack`, `bdata` and `RDERR_SEEN`; it writes nothing else. -/
theorem lineOp_frame (s : State) : ∃ d v e y b a r,
    s.lineOp = { s with sclDir := d, sclVal := v, sdaDir := e, dly := y, bdata := b, ack := a, rderrSeen := r } := by
  unfold State.lineOp
  rw [deliver_eq]
  split_ifs <;> exact ⟨_, _, _, _, _, _, _, rfl⟩

@[simp] theorem lineOp_par (s : State) : s.lineOp.par = s.par := by
  obtain ⟨_, _, _, _, _, _, _, h⟩ := lineOp_frame s; rw [h]
@[simp] theorem lineOp_bop (s : State) : s.lineOp.bop = s.bop := by
  obtain ⟨_, _, _, _, _, _, _, h⟩ := lineOp_frame s; rw [h]
@[simp] theorem lineOp_blast (s : State) : s.lineOp.blast = s.blast := by
  obtain ⟨_, _, _, _, _, _, _, h⟩ := lineOp_frame s; rw [h]
@[simp] theorem lineOp_a7 (s : State) : s.lineOp.a7 = s.a7 := by
  obtain ⟨_, _, _, _, _, _, _, h⟩ := lineOp_frame s; rw [h]
@[simp] theorem lineOp_widx (s : State) : s.lineOp.widx = s.widx := by
  obtain ⟨_, _, _, _, _, _, _, h⟩ := lineOp_frame s; rw [h]
@[simp] theorem lineOp_ridx (s : State) : s.lineOp.ridx = s.ridx := by
  obtain ⟨_, _, _, _, _, _, _, h⟩ := lineOp_frame s; rw [h]
@[simp] theorem lineOp_tries (s : State) : s.lineOp.tries = s.tries := by
  obtain ⟨_, _, _, _, _, _, _, h⟩ := lineOp_frame s; rw [h]
@[simp] theorem lineOp_seq (s : State) : s.lineOp.seq = s.seq := by
  obtain ⟨_, _, _, _, _, _, _, h⟩ := lineOp_frame s; rw [h]
@[simp] theorem lineOp_ustep (s : State) : s.lineOp.ustep = s.ustep := by
  obtain ⟨_, _, _, _, _, _, _, h⟩ := lineOp_frame s; rw [h]
@[simp] theorem lineOp_wcnt (s : State) : s.lineOp.wcnt = s.wcnt := by
  obtain ⟨_, _, _, _, _, _, _, h⟩ := lineOp_frame s; rw [h]
@[simp] theorem lineOp_cfg (s : State) : s.lineOp.cfg = s.cfg := by
  obtain ⟨_, _, _, _, _, _, _, h⟩ := lineOp_frame s; rw [h]
@[simp] theorem lineOp_addr (s : State) : s.lineOp.addr = s.addr := by
  obtain ⟨_, _, _, _, _, _, _, h⟩ := lineOp_frame s; rw [h]
@[simp] theorem lineOp_wlen (s : State) : s.lineOp.wlen = s.wlen := by
  obtain ⟨_, _, _, _, _, _, _, h⟩ := lineOp_frame s; rw [h]
@[simp] theorem lineOp_rlen (s : State) : s.lineOp.rlen = s.rlen := by
  obtain ⟨_, _, _, _, _, _, _, h⟩ := lineOp_frame s; rw [h]
@[simp] theorem lineOp_retry (s : State) : s.lineOp.retry = s.retry := by
  obtain ⟨_, _, _, _, _, _, _, h⟩ := lineOp_frame s; rw [h]
@[simp] theorem lineOp_wait (s : State) : s.lineOp.wait = s.wait := by
  obtain ⟨_, _, _, _, _, _, _, h⟩ := lineOp_frame s; rw [h]
@[simp] theorem lineOp_qdelay (s : State) : s.lineOp.qdelay = s.qdelay := by
  obtain ⟨_, _, _, _, _, _, _, h⟩ := lineOp_frame s; rw [h]
@[simp] theorem lineOp_busy (s : State) : s.lineOp.busy = s.busy := by
  obtain ⟨_, _, _, _, _, _, _, h⟩ := lineOp_frame s; rw [h]
@[simp] theorem lineOp_done (s : State) : s.lineOp.done = s.done := by
  obtain ⟨_, _, _, _, _, _, _, h⟩ := lineOp_frame s; rw [h]
@[simp] theorem lineOp_ok (s : State) : s.lineOp.ok = s.ok := by
  obtain ⟨_, _, _, _, _, _, _, h⟩ := lineOp_frame s; rw [h]
@[simp] theorem lineOp_nakSeen (s : State) : s.lineOp.nakSeen = s.nakSeen := by
  obtain ⟨_, _, _, _, _, _, _, h⟩ := lineOp_frame s; rw [h]
@[simp] theorem lineOp_fault (s : State) : s.lineOp.fault = s.fault := by
  obtain ⟨_, _, _, _, _, _, _, h⟩ := lineOp_frame s; rw [h]
@[simp] theorem lineOp_startOpen (s : State) : s.lineOp.startOpen = s.startOpen := by
  obtain ⟨_, _, _, _, _, _, _, h⟩ := lineOp_frame s; rw [h]
@[simp] theorem lineOp_failCode (s : State) : s.lineOp.failCode = s.failCode := by
  obtain ⟨_, _, _, _, _, _, _, h⟩ := lineOp_frame s; rw [h]
@[simp] theorem lineOp_rxcnt (s : State) : s.lineOp.rxcnt = s.rxcnt := by
  obtain ⟨_, _, _, _, _, _, _, h⟩ := lineOp_frame s; rw [h]
@[simp] theorem lineOp_failIndex (s : State) : s.lineOp.failIndex = s.failIndex := by
  obtain ⟨_, _, _, _, _, _, _, h⟩ := lineOp_frame s; rw [h]
@[simp] theorem lineOp_failByte (s : State) : s.lineOp.failByte = s.failByte := by
  obtain ⟨_, _, _, _, _, _, _, h⟩ := lineOp_frame s; rw [h]
@[simp] theorem lineOp_txbuf (s : State) : s.lineOp.txbuf = s.txbuf := by
  obtain ⟨_, _, _, _, _, _, _, h⟩ := lineOp_frame s; rw [h]
@[simp] theorem lineOp_rxbuf (s : State) : s.lineOp.rxbuf = s.rxbuf := by
  obtain ⟨_, _, _, _, _, _, _, h⟩ := lineOp_frame s; rw [h]
@[simp] theorem lineOp_hRdata (s : State) : s.lineOp.hRdata = s.hRdata := by
  obtain ⟨_, _, _, _, _, _, _, h⟩ := lineOp_frame s; rw [h]
@[simp] theorem lineOp_ins (s : State) : s.lineOp.ins = s.ins := by
  obtain ⟨_, _, _, _, _, _, _, h⟩ := lineOp_frame s; rw [h]
@[simp] theorem lineOp_cycle (s : State) : s.lineOp.cycle = s.cycle := by
  obtain ⟨_, _, _, _, _, _, _, h⟩ := lineOp_frame s; rw [h]
@[simp] theorem lineOp_epoch (s : State) : s.lineOp.epoch = s.epoch := by
  obtain ⟨_, _, _, _, _, _, _, h⟩ := lineOp_frame s; rw [h]

/-- Only a read inside `B_IN` changes `bdata`. -/
theorem lineOp_bdata {s : State} (h : s.bop ≠ .inp) : s.lineOp.bdata = s.bdata := by
  unfold State.lineOp
  rw [deliver_eq, if_neg h]
  split_ifs <;> rfl

/-- The micro-operation step (R142): the fatal abort alone, or the line op and the byte engine's own writes. -/
theorem execUop_eq (s : State) :
    execUop s = .next (if s.uopAborts then s.fatalAbort else s.lineOp.afterUop) := by
  have hl : s.lop = Lop.sclLo ∨ s.lop = Lop.sclHi ∨ s.lop = Lop.sdaLo ∨ s.lop = Lop.sdaHi ∨ s.lop = Lop.sdaRd :=
    uop_legal _ _ _ _
  unfold execUop State.uopAborts State.lineOp
  rcases hl with h | h | h | h | h <;> rw [h] <;> cases hw : s.cur.ioWrErr <;>
    simp only [decode_sclLo, decode_sclHi, decode_sdaLo, decode_sdaHi, decode_sdaRd, exec, execSclLo, execSclHi, execSdaLo,
      execSdaHi, execSdaRd, setOp, hw, andThen_next] <;>
    first | rfl | (cases s.forceSclHigh <;> rfl)

/-! ### Entering a sequencer state (R173) -/

/-- What `enter(q, n)` makes of the state. -/
def State.entered (s : State) (q : Seq) (n : BitVec 9) : State :=
  match q with
  | .idle | .fault => s.setPc q 0
  | .preWait | .retryWait => { s.setPc q 0 with wcnt := s.waitLoad q }
  | .init => (s.setPc q 0).startCommand .init false 0
  | .wStart | .rStart => (s.setPc q 0).startCommand .start false 0
  | .wStop | .rnStop | .rStop | .abStop => (s.setPc q 0).startCommand .stop false 0
  | .wAddr => (s.setPc q 0).startCommand .out false (addressByte s.a7 false)
  | .wData => (s.setPc q 0).startCommand .out false (s.txByte n.toNat)
  | .rAddr => (s.setPc q 0).startCommand .out false (addressByte s.a7 true)
  | .rData => (s.setPc q 0).startCommand .inp (decide (n.toNat + 1 = s.rlen.toNat)) 0

/-- Entering a state always succeeds: the command word decodes to the command the state runs. -/
@[simp] theorem enter_eq (q : Seq) (n : BitVec 9) (s : State) : enter q n s = .next (s.entered q n) := by
  cases q <;> simp only [enter, State.bcmdFor, State.entered, decode_init, decode_start, decode_stop, decode_out,
    decode_inp, exec, execBInit, execBStart, execBStop, execBOut, execBIn] <;> rfl

end Sys2Proof.Machine
end

