-- ==== Sys2Proof/Laws/Memory.lean ====
section
/-! SUPPORT. The laws of the buffers: a read after a write, and the canonical form kept by every write. -/

namespace Sys2Proof.Machine.Memory

@[simp] theorem read_nil (i : Nat) : read [] i = none := rfl

/-- A read after a write: the byte written at its index, the byte that was there at every other. -/
theorem read_write (m : Memory) (i j : Nat) (b : Byte) :
    read (write m i b) j = if j = i then some b else read m j := by
  induction m with
  | nil => simp [write, read, eq_comm]
  | cons c m ih =>
    obtain ⟨k, v⟩ := c
    unfold write
    split_ifs with h1 h2 h3 h4 <;> simp only [read, ih] <;> split_ifs <;> first | rfl | omega

theorem read_write_same (m : Memory) (i : Nat) (b : Byte) : read (write m i b) i = some b := by
  simp [read_write]

theorem read_write_other (m : Memory) (i j : Nat) (b : Byte) (hne : j ≠ i) :
    read (write m i b) j = read m j := by
  simp [read_write, hne]

/-- Every index a write leaves listed was listed before or is the one written. -/
theorem mem_write (m : Memory) (i : Nat) (b : Byte) :
    ∀ c ∈ write m i b, c.1 = i ∨ c ∈ m := by
  induction m with
  | nil => intro c hc; simp [write] at hc; simp [hc]
  | cons d m ih =>
    obtain ⟨k, v⟩ := d
    intro c hc
    unfold write at hc
    split_ifs at hc with h1 h2
    · rcases List.mem_cons.mp hc with rfl | hc
      · exact .inl rfl
      · exact .inr hc
    · rcases List.mem_cons.mp hc with rfl | hc
      · exact .inl rfl
      · exact .inr (List.mem_cons_of_mem _ hc)
    · rcases List.mem_cons.mp hc with rfl | hc
      · exact .inr List.mem_cons_self
      · rcases ih c hc with h | h
        · exact .inl h
        · exact .inr (List.mem_cons_of_mem _ h)

theorem write_wf (m : Memory) (i : Nat) (b : Byte) (h : Memory.wf m) : Memory.wf (write m i b) := by
  induction m with
  | nil => simp [write, Memory.wf]
  | cons d m ih =>
    obtain ⟨k, v⟩ := d
    have hm : Memory.wf m := (List.pairwise_cons.mp h).2
    have hk : ∀ c ∈ m, k < c.1 := (List.pairwise_cons.mp h).1
    unfold write
    split_ifs with h1 h2
    · refine List.pairwise_cons.mpr ⟨?_, h⟩
      intro c hc
      rcases List.mem_cons.mp hc with rfl | hc
      · exact h1
      · exact lt_trans h1 (hk c hc)
    · subst h2
      exact List.pairwise_cons.mpr ⟨hk, hm⟩
    · refine List.pairwise_cons.mpr ⟨?_, ih hm⟩
      intro c hc
      rcases mem_write m i b c hc with hci | hc
      · have : k < i := by omega
        simpa [hci] using this
      · exact hk c hc

theorem write_inside (m : Memory) (i n : Nat) (b : Byte) (h : ∀ c ∈ m, c.1 < n) (hi : i < n) :
    ∀ c ∈ write m i b, c.1 < n := by
  intro c hc
  rcases mem_write m i b c hc with hci | hc
  · simpa [hci] using hi
  · exact h c hc

theorem reset_txbuf_wf : Memory.wf State.reset.txbuf := List.Pairwise.nil

theorem reset_rxbuf_wf : Memory.wf State.reset.rxbuf := List.Pairwise.nil

end Sys2Proof.Machine.Memory
end

