-- ==== Sys2Proof/Laws/PerInstr.lean ====
section
/-! SUPPORT. The statements made per operation: the encoding of an operation is a word of the operation's own format. -/

namespace Sys2Proof.Laws.EncodeFormat

/-- The encoder puts every operation on the interface of its format (R90). -/
def Statement (i : Instr) : Prop := (encode i).format = i.format

theorem sclLo : Statement .sclLo := rfl
theorem sclHi : Statement .sclHi := rfl
theorem sdaLo : Statement .sdaLo := rfl
theorem sdaHi : Statement .sdaHi := rfl
theorem sdaRd : Statement .sdaRd := rfl
theorem bInit : Statement .bInit := rfl
theorem bStart : Statement .bStart := rfl
theorem bStop : Statement .bStop := rfl
theorem bOut (data : Byte) : Statement (.bOut data) := rfl
theorem bIn (last : Bool) : Statement (.bIn last) := rfl
theorem hread (idx : HostIdx) : Statement (.hread idx) := rfl
theorem hwrite (idx : HostIdx) (v : Reg) : Statement (.hwrite idx v) := rfl
theorem transaction : Statement .transaction := rfl

end Sys2Proof.Laws.EncodeFormat
end

