-- ==== Sys2Proof/Laws/Step.lean ====
section
/-! SUPPORT. What a step can do, said once: the moves of the engine, the requests of the host, and a step as the two
together. -/

namespace Sys2Proof.Machine

/-- The moves of the engine in one cycle, one constructor per case of `Tick` and per transition of R196. -/
inductive EngineMove (s : State) : State → Prop where
  | rest (hq : s.seq = .idle ∨ s.seq = .fault) : EngineMove s s
  | waitCount (hq : s.seq = .preWait ∨ s.seq = .retryWait) (hw : s.wcnt ≠ 0) :
      EngineMove s { s with wcnt := s.wcnt - 1 }
  | waitEnd (hq : s.seq = .preWait ∨ s.seq = .retryWait) (hw : s.wcnt = 0) : EngineMove s (s.entered .rStart 0)
  | delay (hq : s.seq.command.isSome) (hd : s.dly ≠ 0) : EngineMove s { s with dly := s.dly - 1 }
  | abort (hq : s.seq.command.isSome) (hd : s.dly = 0) (hu : s.ustep.toNat < s.bop.len)
      (ha : s.uopAborts = true) : EngineMove s s.fatalAbort
  | lineOp (hq : s.seq.command.isSome) (hd : s.dly = 0) (hu : s.ustep.toNat < s.bop.len)
      (ha : s.uopAborts = false) : EngineMove s s.lineOp.afterUop
  | initDone (hq : s.seq = .init) (hd : s.dly = 0) (hu : ¬ s.ustep.toNat < s.bop.len) :
      EngineMove s (s.entered .wStart 0)
  | wStartDone (hq : s.seq = .wStart) (hd : s.dly = 0) (hu : ¬ s.ustep.toNat < s.bop.len) :
      EngineMove s (s.entered .wAddr 0)
  | wAddrNak (hq : s.seq = .wAddr) (hd : s.dly = 0) (hu : ¬ s.ustep.toNat < s.bop.len)
      (hn : s.ack = false) (hi : s.ignoreNak = false) :
      EngineMove s ((s.noteNak.raiseFail .wAddrNak 0 s.bdata).entered .abStop 0)
  | wAddrData (hq : s.seq = .wAddr) (hd : s.dly = 0) (hu : ¬ s.ustep.toNat < s.bop.len)
      (hn : ¬ (s.ack = false ∧ s.ignoreNak = false)) (hl : s.wlen.toNat > s.first) :
      EngineMove s (({ s.noteNak with widx := BitVec.ofNat 9 s.first } : State).entered .wData (BitVec.ofNat 9 s.first))
  | wAddrStop (hq : s.seq = .wAddr) (hd : s.dly = 0) (hu : ¬ s.ustep.toNat < s.bop.len)
      (hn : ¬ (s.ack = false ∧ s.ignoreNak = false)) (hl : ¬ s.wlen.toNat > s.first) :
      EngineMove s (s.noteNak.entered .wStop 0)
  | wDataNak (hq : s.seq = .wData) (hd : s.dly = 0) (hu : ¬ s.ustep.toNat < s.bop.len)
      (hn : s.ack = false) (hi : s.ignoreNak = false) :
      EngineMove s ((s.noteNak.raiseFail .wDataNak (s.widx - BitVec.ofNat 9 s.first + 1) s.bdata).entered .abStop 0)
  | wDataNext (hq : s.seq = .wData) (hd : s.dly = 0) (hu : ¬ s.ustep.toNat < s.bop.len)
      (hn : ¬ (s.ack = false ∧ s.ignoreNak = false)) (hl : s.widx.toNat + 1 < s.wlen.toNat) :
      EngineMove s (({ s.noteNak with widx := s.widx + 1 } : State).entered .wData (s.widx + 1))
  | wDataStop (hq : s.seq = .wData) (hd : s.dly = 0) (hu : ¬ s.ustep.toNat < s.bop.len)
      (hn : ¬ (s.ack = false ∧ s.ignoreNak = false)) (hl : ¬ s.widx.toNat + 1 < s.wlen.toNat) :
      EngineMove s (s.noteNak.entered .wStop 0)
  | wStopEnd (hq : s.seq = .wStop) (hd : s.dly = 0) (hu : ¬ s.ustep.toNat < s.bop.len) (hr : s.rlen = 0) :
      EngineMove s (s.finish true)
  | wStopRead (hq : s.seq = .wStop) (hd : s.dly = 0) (hu : ¬ s.ustep.toNat < s.bop.len) (hr : s.rlen ≠ 0) :
      EngineMove s (s.entered .preWait 0)
  | rStartDone (hq : s.seq = .rStart) (hd : s.dly = 0) (hu : ¬ s.ustep.toNat < s.bop.len) :
      EngineMove s (s.entered .rAddr 0)
  | rAddrAck (hq : s.seq = .rAddr) (hd : s.dly = 0) (hu : ¬ s.ustep.toNat < s.bop.len) (ha : s.ack = true) :
      EngineMove s (({ s with ridx := 0 } : State).entered .rData 0)
  | rAddrNak (hq : s.seq = .rAddr) (hd : s.dly = 0) (hu : ¬ s.ustep.toNat < s.bop.len) (ha : s.ack = false) :
      EngineMove s (({ s with nakSeen := true } : State).entered .rnStop 0)
  | retriesOut (hq : s.seq = .rnStop) (hd : s.dly = 0) (hu : ¬ s.ustep.toNat < s.bop.len) (ht : s.tries = s.retry) :
      EngineMove s ((s.raiseFail .rAddrNak 0 (addressByte s.a7 true)).finish false)
  | retry (hq : s.seq = .rnStop) (hd : s.dly = 0) (hu : ¬ s.ustep.toNat < s.bop.len) (ht : s.tries ≠ s.retry) :
      EngineMove s (({ s with tries := s.tries + 1 } : State).entered .retryWait 0)
  | rDataNext (hq : s.seq = .rData) (hd : s.dly = 0) (hu : ¬ s.ustep.toNat < s.bop.len)
      (hl : s.ridx.toNat + 1 < s.rlen.toNat) :
      EngineMove s (({ s with
        rxbuf := Memory.write s.rxbuf s.ridx.toNat s.bdata, rxcnt := s.ridx + 1, ridx := s.ridx + 1 } : State).entered
          .rData (s.ridx + 1))
  | rDataLast (hq : s.seq = .rData) (hd : s.dly = 0) (hu : ¬ s.ustep.toNat < s.bop.len)
      (hl : ¬ s.ridx.toNat + 1 < s.rlen.toNat) :
      EngineMove s (({ s with
        rxbuf := Memory.write s.rxbuf s.ridx.toNat s.bdata, rxcnt := s.ridx + 1 } : State).entered .rStop 0)
  | rStopEnd (hq : s.seq = .rStop) (hd : s.dly = 0) (hu : ¬ s.ustep.toNat < s.bop.len) :
      EngineMove s (s.finish true)
  | abStopEnd (hq : s.seq = .abStop) (hd : s.dly = 0) (hu : ¬ s.ustep.toNat < s.bop.len) :
      EngineMove s (s.finish false)

/-- The completion step is one of the moves. -/
theorem complete_move (s : State) (hq : s.seq.command.isSome) (hd : s.dly = 0) (hu : ¬ s.ustep.toNat < s.bop.len) :
    ∃ e, complete s = .next e ∧ EngineMove s e := by
  unfold complete
  split
  case h_1 hs => exact ⟨_, enter_eq _ _ _, .initDone hs hd hu⟩
  case h_2 hs => exact ⟨_, enter_eq _ _ _, .wStartDone hs hd hu⟩
  case h_3 hs =>
    unfold completeWAddr
    split_ifs with h1 h2
    · exact ⟨_, enter_eq _ _ _, .wAddrNak hs hd hu h1.1 h1.2⟩
    · exact ⟨_, enter_eq _ _ _, .wAddrData hs hd hu h1 h2⟩
    · exact ⟨_, enter_eq _ _ _, .wAddrStop hs hd hu h1 h2⟩
  case h_4 hs =>
    unfold completeWData
    split_ifs with h1 h2
    · exact ⟨_, enter_eq _ _ _, .wDataNak hs hd hu h1.1 h1.2⟩
    · exact ⟨_, enter_eq _ _ _, .wDataNext hs hd hu h1 h2⟩
    · exact ⟨_, enter_eq _ _ _, .wDataStop hs hd hu h1 h2⟩
  case h_5 hs =>
    unfold completeWStop
    split_ifs with h1
    · exact ⟨_, rfl, .wStopEnd hs hd hu h1⟩
    · exact ⟨_, enter_eq _ _ _, .wStopRead hs hd hu h1⟩
  case h_6 hs => exact ⟨_, enter_eq _ _ _, .rStartDone hs hd hu⟩
  case h_7 hs =>
    unfold completeRAddr
    split_ifs with h1
    · exact ⟨_, enter_eq _ _ _, .rAddrAck hs hd hu h1⟩
    · exact ⟨_, enter_eq _ _ _, .rAddrNak hs hd hu (by simpa using h1)⟩
  case h_8 hs =>
    unfold completeRnStop
    split_ifs with h1
    · exact ⟨_, rfl, .retriesOut hs hd hu h1⟩
    · exact ⟨_, enter_eq _ _ _, .retry hs hd hu h1⟩
  case h_9 hs =>
    unfold completeRData
    dsimp only
    split_ifs with h1
    · exact ⟨_, enter_eq _ _ _, .rDataNext hs hd hu h1⟩
    · exact ⟨_, enter_eq _ _ _, .rDataLast hs hd hu h1⟩
  case h_10 hs => exact ⟨_, rfl, .rStopEnd hs hd hu⟩
  case h_11 hs => exact ⟨_, rfl, .abStopEnd hs hd hu⟩
  all_goals simp_all [Seq.command]

/-- The engine always has a step (R246), and it is one of the moves. -/
theorem engineStep_move (s : State) : ∃ e, engineStep s = .next e ∧ EngineMove s e := by
  have hcmd : s.seq.command.isSome → ∃ e, commandCycle s = .next e ∧ EngineMove s e := by
    intro hq
    unfold commandCycle
    split_ifs with hd hu
    · exact ⟨_, rfl, .delay hq hd⟩
    · have hd' : s.dly = 0 := by simpa using hd
      rw [execUop_eq]
      cases ha : s.uopAborts
      · exact ⟨_, rfl, .lineOp hq hd' hu ha⟩
      · exact ⟨_, rfl, .abort hq hd' hu ha⟩
    · exact complete_move s hq (by simpa using hd) hu
  have hwait : s.seq = .preWait ∨ s.seq = .retryWait → ∃ e, waitCycle s = .next e ∧ EngineMove s e := by
    intro hq
    unfold waitCycle
    split_ifs with hw
    · exact ⟨_, rfl, .waitCount hq hw⟩
    · exact ⟨_, enter_eq _ _ _, .waitEnd hq (by simpa using hw)⟩
  unfold engineStep
  split
  case h_1 hs => exact ⟨_, rfl, .rest (.inl hs)⟩
  case h_2 hs => exact ⟨_, rfl, .rest (.inr hs)⟩
  case h_3 hs => exact hwait (.inl hs)
  case h_4 hs => exact hwait (.inr hs)
  all_goals
    rename_i hs
    exact hcmd (by simp [hs, Seq.command])

/-- The requests of the host in one cycle (R61 to R67, R172). -/
inductive HostMove (s : State) : State → Prop where
  | none (hs : s.cur.hSel = false) : HostMove s s.noReadData
  | read (hs : s.cur.hSel = true) (hw : s.cur.hWe = false) :
      HostMove s { s with hRdata := s.hostRead s.cur.hIdx }
  | ignored (hs : s.cur.hSel = true) (hw : s.cur.hWe = true) (hb : s.busy = true) : HostMove s s.noReadData
  | cmdNothing (hs : s.cur.hSel = true) (hw : s.cur.hWe = true) (hb : s.busy = false) (hi : s.cur.hIdx = 0#10)
      (hg : s.cur.hWdata.getLsbD 0 = false) : HostMove s s.noReadData
  | store (hs : s.cur.hSel = true) (hw : s.cur.hWe = true) (hb : s.busy = false) (hi : s.cur.hIdx ≠ 0#10) :
      HostMove s (s.noReadData.hostStore s.cur.hIdx s.cur.hWdata)
  | goIgnored (hs : s.cur.hSel = true) (hw : s.cur.hWe = true) (hb : s.busy = false) (hi : s.cur.hIdx = 0#10)
      (hg : s.cur.hWdata.getLsbD 0 = true) (hq : s.seq ≠ .idle ∨ s.fault = true) : HostMove s s.noReadData
  | goRejected (hs : s.cur.hSel = true) (hw : s.cur.hWe = true) (hb : s.busy = false) (hi : s.cur.hIdx = 0#10)
      (hg : s.cur.hWdata.getLsbD 0 = true) (hq : s.seq = .idle) (hf : s.fault = false) (hd : s.badDescriptor = true) :
      HostMove s { s.noReadData.clearResults with failCode := .badArg, done := true }
  | goAccepted (hs : s.cur.hSel = true) (hw : s.cur.hWe = true) (hb : s.busy = false) (hi : s.cur.hIdx = 0#10)
      (hg : s.cur.hWdata.getLsbD 0 = true) (hq : s.seq = .idle) (hf : s.fault = false) (hd : s.badDescriptor = false) :
      HostMove s ((({ s.noReadData.clearResults with busy := true, a7 := s.slaveAddr } : State).setPc .init 0).startCommand
        .init false 0)

/-- The host's part of a cycle always succeeds, and it is one of the requests. -/
theorem hostPart_move (s : State) : ∃ h, hostPart s = .next h ∧ HostMove s h := by
  have hgo : s.cur.hSel = true → s.cur.hWe = true → s.busy = false → s.cur.hIdx = 0#10 →
      s.cur.hWdata.getLsbD 0 = true → ∃ h, go s.noReadData = .next h ∧ HostMove s h := by
    intro hs hw hb hi hg
    unfold go
    split_ifs with h1 h2
    · exact ⟨_, rfl, .goIgnored hs hw hb hi hg h1⟩
    · have h1' := not_or.mp h1
      exact ⟨_, rfl, .goRejected hs hw hb hi hg (by simpa using h1'.1) (by simpa using h1'.2) h2⟩
    · have h1' := not_or.mp h1
      exact ⟨_, rfl, .goAccepted hs hw hb hi hg (by simpa using h1'.1) (by simpa using h1'.2)
        (Bool.eq_false_iff.mpr h2)⟩
  unfold hostPart
  by_cases hs : s.cur.hSel = true
  · simp only [hs, if_true, decode_host, decodeHost_hostWord]
    by_cases hw : s.cur.hWe = true
    · simp only [hw, if_true]
      split_ifs with hc
      · simp only [exec, execTransaction]
        split_ifs with hb
        · exact ⟨_, rfl, .ignored hs hw hb⟩
        · exact hgo hs hw (by simpa using hb) hc.1 hc.2
      · simp only [exec, execHwrite]
        split_ifs with hb hi hg
        · exact ⟨_, rfl, .ignored hs hw hb⟩
        · exact absurd ⟨hi, hg⟩ hc
        · exact ⟨_, rfl, .cmdNothing hs hw (by simpa using hb) hi (by simpa using hg)⟩
        · exact ⟨_, rfl, .store hs hw (by simpa using hb) hi⟩
    · simp only [hw]
      exact ⟨_, rfl, .read hs (by simpa using hw)⟩
  · simp only [hs]
    exact ⟨_, rfl, .none (by simpa using hs)⟩

/-- A step: the reset, or a host request and an engine move joined at the edge (R240, R246). -/
theorem step_cases {s t : State} (h : step s = .next t) :
    (s.cur.rst = true ∧ t = s.restart) ∨
    (s.cur.rst = false ∧ ∃ r e, hostPart s = .next r ∧ HostMove s r ∧ engineStep s = .next e ∧ EngineMove s e ∧
      t = (joinWrites s r e).closeCycle) := by
  unfold step at h
  split_ifs at h with hr
  · exact .inl ⟨hr, by cases h; rfl⟩
  · obtain ⟨r, hr1, hr2⟩ := hostPart_move s
    obtain ⟨e, he1, he2⟩ := engineStep_move s
    refine .inr ⟨by simpa using hr, r, e, hr1, hr2, he1, he2, ?_⟩
    simp only [cycleBody, hr1, he1, andThen_next] at h
    cases h; rfl

/-- A cycle without reset, from the host's and the engine's part of it. -/
theorem step_of_parts {s r e : State} (hr : s.cur.rst = false) (h1 : hostPart s = .next r)
    (h2 : engineStep s = .next e) : step s = .next (joinWrites s r e).closeCycle := by
  simp [step, hr, cycleBody, h1, h2]

/-- Where the engine is at rest the host's writes stand alone. -/
theorem joinWrites_rest {s r e : State} (h : s.seq.engineIdle = true) : joinWrites s r e = r := by
  simp [joinWrites, h]

/-- While `BUSY` a host request moves the read data alone (R65). -/
theorem HostMove.of_busy {s r : State} (hb : s.busy = true) (hm : HostMove s r) : ∃ x, r = { s with hRdata := x } := by
  cases hm <;> first | exact ⟨_, rfl⟩ | simp_all

/-- The engine never writes the descriptor, `TXBUF` or the read data (R75, R76). -/
theorem EngineMove.keeps_host {s e : State} (hm : EngineMove s e) :
    e.cfg = s.cfg ∧ e.addr = s.addr ∧ e.wlen = s.wlen ∧ e.rlen = s.rlen ∧ e.retry = s.retry ∧ e.wait = s.wait
      ∧ e.qdelay = s.qdelay ∧ e.txbuf = s.txbuf ∧ e.hRdata = s.hRdata := by
  cases hm <;> simp [State.entered]

end Sys2Proof.Machine
end

