-- ==== Sys2Proof/Laws/Run.lean ====
section
/-! SUPPORT. Runs: their unfolding, their concatenation, the inputs they see; and what a line op does to the levels. -/

namespace Sys2Proof.Machine

@[simp] theorem run_zero (s : State) : run 0 s = .next s := rfl

theorem run_succ (n : Nat) (s : State) : run (n + 1) s = andThen (step s) (run n) := by
  have hs : Sys2Proof.core.step s = step s := rfl
  cases h : step s <;> rw [h] at hs <;> simp only [run, Host.Core.run, hs] <;> rfl

theorem run_succ_of_step {n : Nat} {s t : State} (h : step s = .next t) : run (n + 1) s = run n t := by
  rw [run_succ, h]; rfl

/-- A run of `m + n` cycles is the run of `n` cycles from where the run of `m` cycles ends. -/
theorem run_add (m n : Nat) (s : State) : run (m + n) s = andThen (run m s) (run n) := by
  induction m generalizing s with
  | zero => simp
  | succ m ih =>
    rw [Nat.succ_add, run_succ, run_succ]
    cases h : step s with
    | next t => exact ih t
    | fault r => rfl
    | refused r => rfl

@[simp] theorem inputAt_later (s : State) (n : Nat) (x : Reg) (k : Nat) : (s.later n x).inputAt k = s.inputAt (n + k) := by
  simp [State.inputAt, State.later, List.drop_drop, Nat.add_assoc]

theorem later_later (s : State) (m n : Nat) (x y : Reg) : (s.later m x).later n y = s.later (m + n) y := by
  simp [State.later, List.drop_drop, Nat.add_assoc]

/-- What a line op does to the levels, code by code (R123 to R127). -/
theorem lineOp_levels (s : State) :
    (s.lop = Lop.sclLo → s.lineOp.sclLow ∧ s.lineOp.sdaDir = s.sdaDir)
    ∧ (s.lop = Lop.sclHi → s.lineOp.sclHigh ∧ s.lineOp.sdaDir = s.sdaDir)
    ∧ (s.lop = Lop.sdaLo → s.lineOp.sclDir = s.sclDir ∧ s.lineOp.sclVal = s.sclVal ∧ s.lineOp.sdaDir = .out)
    ∧ (s.lop = Lop.sdaHi → s.lineOp.sclDir = s.sclDir ∧ s.lineOp.sclVal = s.sclVal ∧ s.lineOp.sdaDir = .inp)
    ∧ (s.lop = Lop.sdaRd → s.lineOp.sclDir = s.sclDir ∧ s.lineOp.sclVal = s.sclVal ∧ s.lineOp.sdaDir = s.sdaDir) := by
  refine ⟨?_, ?_, ?_, ?_, ?_⟩ <;> intro h
  · rw [lineOp_of_sclLo h]; exact ⟨⟨rfl, rfl⟩, rfl⟩
  · rw [lineOp_of_sclHi h]; split_ifs <;> simp [State.sclHigh]
  · rw [lineOp_of_sdaLo h]; exact ⟨rfl, rfl, rfl⟩
  · rw [lineOp_of_sdaHi h]; exact ⟨rfl, rfl, rfl⟩
  · rw [lineOp_of_sdaRd h, deliver_eq]; exact ⟨rfl, rfl, rfl⟩

end Sys2Proof.Machine
end

