-- ==== Sys2Proof/Tests/Slice0.lean ====
section
/-! SUPPORT. Tests: ill-formed terms refused, words written out from the spec's encodings, the vectors of 95_test_vectors.md,
and a witness for every statement with hypotheses. -/

namespace Sys2Proof.Tests

open Sys2Proof.Machine

/-! ### Small states -/

/-- Parameters at their defaults, `CLK_PER_US = 1`, `QDELAY_RESET = 5`, `DEFAULT_RETRY_WAIT_US = 10`. -/
def par : Params := ⟨1, 5, 10, 32, 32, 255⟩

/-- A cycle without request, SDA high, nothing failing. -/
def quiet : CycleIn := ⟨false, false, false, 0, 0, true, false, false⟩

/-- The reset state with the given inputs to come. -/
def base (ins : List CycleIn) : State := State.atReset par 0 0 ins

/-- A byte command under way: sequencer state `q` running `b`, at step `u`, in skip-delay mode, SDA low for 60 cycles. -/
def running (q : Seq) (b : Bop) (u : BitVec 6) : State :=
  { base (List.replicate 60 { quiet with sdaI := false }) with
    seq := q, bop := b, ustep := u, busy := true, cfg := 0b0010 }

/-- A host write on the port. -/
def portWrite (idx : HostIdx) (v : Reg) : CycleIn := { quiet with hSel := true, hWe := true, hIdx := idx, hWdata := v }

/-- A host read on the port. -/
def portRead (idx : HostIdx) : CycleIn := { quiet with hSel := true, hIdx := idx }

/-- A field of the next state. -/
def got {α : Type} (o : Host.Outcome State Fault Refusal) (f : State → α) : Option α :=
  match o with
  | .next s => some (f s)
  | .fault _ => none
  | .refused _ => none

/-- The line state as the vectors write it. -/
def lines (s : State) : Dir × Bool × Dir := (s.sclDir, s.sclVal, s.sdaDir)

/-- The word the host reads at an index in the state. -/
def read (idx : HostIdx) (s : State) : Reg := s.hostRead idx

/-! ### Well-formedness refuses ill-formed terms -/

theorem test_wf_refuses_go_spelt_hwrite : (Instr.hwrite 0x000 0x00000001).wf = false := by decide
theorem test_wf_refuses_clk_zero : ({ par with clkPerUs := 0 } : Params).wf = false := by decide
theorem test_wf_refuses_default_wait_zero : ({ par with defaultRetryWaitUs := 0 } : Params).wf = false := by decide
/-- `32 + ceil(log2(CLK_PER_US))` (R30). -/
theorem test_wcnt_width :
    [1, 2, 3, 4, 5, 100].map (fun c => ({ par with clkPerUs := c } : Params).wcntWidth) = [32, 33, 34, 34, 35, 39] := by decide
/-- R186 with `WAIT = 0`, a default wait of 2^33 and `CLK_PER_US = 1`: the product, without truncation. -/
theorem test_retry_wait_is_exact :
    got (enter .retryWait 0 { base [] with par := { par with defaultRetryWaitUs := 2 ^ 33 } }) (fun t => t.wcnt)
      = some 8589934592 := by decide
theorem test_wf_refuses_tx_depth_zero : ({ par with txDepth := 0 } : Params).wf = false := by decide
theorem test_wf_refuses_tx_depth_257 : ({ par with txDepth := 257 } : Params).wf = false := by decide
theorem test_wf_refuses_rx_depth_zero : ({ par with rxDepth := 0 } : Params).wf = false := by decide
theorem test_wf_refuses_rx_depth_257 : ({ par with rxDepth := 257 } : Params).wf = false := by decide
theorem test_wf_refuses_retry_max_65536 : ({ par with retryMax := 65536 } : Params).wf = false := by decide
theorem test_wf_accepts : par.wf = true ∧ (Instr.hwrite 0x000 0x00000002).wf = true := by decide

/-! ### Words written out from R91 to R95 -/

theorem test_decode_sclLo : decodeTableWord 8 0b000 = some .sclLo := by decide
theorem test_decode_sclHi : decodeTableWord 8 0b001 = some .sclHi := by decide
theorem test_decode_sdaLo : decodeTableWord 8 0b010 = some .sdaLo := by decide
theorem test_decode_sdaHi : decodeTableWord 8 0b011 = some .sdaHi := by decide
theorem test_decode_sdaRd : decodeTableWord 8 0b110 = some .sdaRd := by decide
theorem test_decode_bInit : decodeTableWord 16 0b000000000000 = some .bInit := by decide
theorem test_decode_bStart : decodeTableWord 16 0b001000000000 = some .bStart := by decide
theorem test_decode_bStop : decodeTableWord 16 0b010000000000 = some .bStop := by decide
/-- `{011, 0, 10100000}`: `B_OUT 0xA0`. -/
theorem test_decode_bOut : decodeTableWord 16 0b011010100000 = some (.bOut 0xA0) := by decide
/-- `{100, 1, 00000000}`: `B_IN last=1`. -/
theorem test_decode_bIn : decodeTableWord 16 0b100100000000 = some (.bIn true) := by decide
/-- P1, the poll: `0x00800000000` is `R 0x008`. -/
theorem test_decode_hread : decodeTableWord 48 0x00800000000 = some (.hread 0x008) := by decide
/-- P3: `0x500000000A0` is `W 0x100, 0xA0`. -/
theorem test_decode_hwrite : decodeTableWord 48 0x500000000A0 = some (.hwrite 0x100 0xA0) := by decide
/-- P1: `0x40000000001` is `W 0x000, 1`; bits 31:1 are ignored (R95). -/
theorem test_decode_transaction :
    decodeTableWord 48 0x40000000001 = some .transaction ∧ decodeTableWord 48 0x400FFFFFFFF = some .transaction := by decide
theorem test_decode_reserved :
    decodeTableWord 8 0b100 = none ∧ decodeTableWord 8 0b101 = none ∧ decodeTableWord 8 0b111 = none
      ∧ decodeTableWord 16 0b101000000000 = none ∧ decodeTableWord 16 0b111000000000 = none
      ∧ decodeTableWord 16 0b001000000001 = none ∧ decodeTableWord 16 0b011100000000 = none
      ∧ decodeTableWord 8 0b1000 = none := by decide

/-! ### The vectors: line operations (V10 to V19) -/

theorem test_V10_sclLo : got (exec .sclLo (base [quiet])) (fun t => (lines t, t.dly)) = some ((.out, false, .inp), 10) := by decide
theorem test_V12_sclLo_from_forced_high :
    got (exec .sclLo { base [quiet] with sclDir := .out, sclVal := true, cfg := 1 }) (fun t => (lines t, t.dly))
      = some ((.out, false, .inp), 10) := by decide
theorem test_V13_sclHi :
    got (exec .sclHi { base [quiet] with sclDir := .out, sdaDir := .out }) (fun t => (lines t, t.dly))
      = some ((.inp, false, .out), 10) := by decide
theorem test_V14_sclHi_forced :
    got (exec .sclHi { base [quiet] with sclDir := .out, sdaDir := .out, cfg := 1 }) (fun t => (lines t, t.dly))
      = some ((.out, true, .out), 10) := by decide
theorem test_V15_sdaLo_skips_the_tail :
    got (exec .sdaLo { base [quiet] with sclDir := .out, cfg := 2 }) (fun t => (lines t, t.dly))
      = some ((.out, false, .out), 0) := by decide
/-- `SEQ = 14`, `USTEP = 3`, `FAIL_CODE = 5`, `FAULT`, `DONE`: R40. -/
theorem test_V19_sdaLo_write_failure :
    got (exec .sdaLo { base [{ quiet with ioWrErr := true }] with seq := .wStart, bop := .start, ustep := 3, busy := true })
      (fun t => (lines t, t.dly, t.statusWord)) = some ((.inp, false, .inp), 0, 0x0003E522) := by decide
theorem test_V16_sdaHi_releases :
    got (exec .sdaHi { base [quiet] with sclDir := .out, sdaDir := .out, cfg := 1, qdelay := 0 }) (fun t => (lines t, t.dly))
      = some ((.out, false, .inp), 0) := by decide
theorem test_V17_sdaRd_ack :
    got (exec .sdaRd { base [{ quiet with sdaI := false }] with bop := .out, dly := 0 }) (fun t => (lines t, t.ack, t.rderrSeen))
      = some ((.inp, false, .inp), true, false) := by decide
theorem test_V18_sdaRd_failed_read_is_nak :
    got (exec .sdaRd { base [{ quiet with sdaI := false, ioRdErr := true }] with bop := .out, ack := true })
      (fun t => (t.ack, t.rderrSeen)) = some (false, true) := by decide

/-! ### The vectors: byte commands (V20 to V29) -/

/-- The trace of the command that a state is about to run, to its end. -/
def trace (s : State) (b : Bop) : List (BitVec 3) := lineOpTrace (s.commandCycles b) s

theorem test_V20_bInit_trace :
    (got (exec .bInit (running .init .stop 4)) (fun t => trace t .init)) = some [Lop.sdaHi, Lop.sclHi] := by decide
theorem test_V21_bStart_trace :
    (got (exec .bStart (running .wStart .init 2)) (fun t => trace t .start))
      = some [Lop.sclLo, Lop.sdaHi, Lop.sclHi, Lop.sdaLo] := by decide
theorem test_V22_bStop_trace :
    (got (exec .bStop (running .wStop .out 36)) (fun t => trace t .stop))
      = some [Lop.sclLo, Lop.sdaLo, Lop.sclHi, Lop.sdaHi] := by decide
/-- `B_OUT 0xA0` with answer 0: `ack = 1`, SCL low, SDA released. -/
theorem test_V23_bOut_acknowledged :
    got (andThen (exec (.bOut 0xA0) (running .wAddr .start 4)) (run 36)) (fun t => (lines t, t.ack, t.ustep))
      = some ((.out, false, .inp), true, 36) := by decide
theorem test_V23_bOut_trace_begins_with_bit_7 :
    (got (exec (.bOut 0xA0) (running .wAddr .start 4)) (fun t => (trace t .out).take 8))
      = some [Lop.sclLo, Lop.sdaHi, Lop.sclHi, Lop.sclLo, Lop.sclLo, Lop.sdaLo, Lop.sclHi, Lop.sclLo] := by decide
/-- V28: the samples `0,1,0,1,0,1,0,1` of `B_IN last=1`, at cycles 2, 5, ..., 23 with `D = 1`, give `0x55`. -/
theorem test_V28_bIn_assembles :
    got (andThen (exec (.bIn true) { running .rData .out 36 with
        ins := (List.range 40).map (fun k => { quiet with sdaI := decide (k = 5 ∨ k = 11 ∨ k = 17 ∨ k = 23) }) }) (run 28))
      (fun t => (lines t, t.bdata, t.ustep)) = some ((.out, false, .inp), 0x55, 28) := by decide
/-- V29: after `last=0` SDA is still driven low, the master's ACK (R151). -/
theorem test_V29_bIn_ack_leaves_sda_low :
    got (andThen (exec (.bIn false) (running .rData .out 36)) (run 28)) lines = some (.out, false, .out) := by decide

/-! ### The vectors: the host port and the sequencer -/

/-- V50: after reset `R 0x007` returns `QDELAY_RESET`. -/
theorem test_V50_hread : got (exec (.hread 0x007) (base [quiet])) (fun t => t.hRdata) = some 5 := by decide
/-- V57: idle, `sda_i = 1`. -/
theorem test_V57_hread_lines : got (exec (.hread 0x00B) (base [quiet])) (fun t => t.hRdata) = some 0x10 := by decide
theorem test_V51_hwrite_addr :
    got (exec (.hwrite 0x002 0xFFFFFFFF) (base [quiet])) (read 0x002) = some 0x7F := by decide
theorem test_V53_hwrite_txbuf :
    got (exec (.hwrite 0x100 0x1A0) (base [quiet])) (read 0x100) = some 0xA0 := by decide
/-- V56: the cycle after GO reads `0x00001001`. -/
theorem test_V56_transaction_accepted : got (exec .transaction (base [quiet])) (read 0x008) = some 0x00001001 := by decide
/-- V39a: `WLEN = 33` with `TX_DEPTH = 32` is `F_BADARG`. -/
theorem test_V39a_transaction_rejected :
    got (exec .transaction { base [quiet] with wlen := 33 }) (read 0x008) = some 0x00000102 := by decide
/-- V58: reset in the middle of a byte. -/
theorem test_V58_reset_releases :
    got (step { running .wAddr .out 12 with sclDir := .out, ins := [{ quiet with rst := true }] })
      (fun t => (lines t, t.statusWord, t.qdelay)) = some ((.inp, false, .inp), 0, 5) := by decide

/-- R258: the record of the acknowledge sample of a byte, and of a set op. -/
theorem test_opRecord_holds_the_sample :
    (running .wAddr .out 34).opRecord = [(Lop.sdaRd, some false)]
      ∧ (running .wAddr .out 33).opRecord = [(Lop.sclHi, none)] ∧ (running .wAddr .out 36).opRecord = [] := by decide

/-- V39b: the set op that takes the fatal abort is not in the trace; a failing write leaves an `SDA_RD` in it. -/
theorem test_V39b_aborted_op_is_not_recorded :
    let failing (s : State) : State := { s with ins := [{ quiet with ioWrErr := true }] }
    (failing (running .wAddr .out 1)).opRecord = [] ∧ (failing (running .wAddr .out 34)).opRecord = [(Lop.sdaRd, some true)] := by
  decide

/-- R258: `RXBUF[0 .. RXCNT-1]` and no more, after two bytes. -/
theorem test_result_holds_the_received_bytes :
    ({ base [] with rxcnt := 2, rxbuf := [(0, 0xAB), (1, 0xCD), (2, 0xEF)] } : State).transactionResult.received
      = [0xAB, 0xCD] := by decide

/-- R258: a rejected descriptor is a transaction that ends in the cycle after its GO, with no line op. -/
theorem test_rejected_transaction_ends_at_once :
    let s := { base [portWrite 0x000 1] with wlen := 33 }
    (∃ e, TransactionFrom s e 1 ∧ e.transactionResult.failCode = .badArg) ∧ transactionTrace s 1 = [] :=
  ⟨⟨_, ⟨by decide, by decide, by unfold State.noResetFor; decide, rfl, by decide, by omega⟩, by decide⟩, by decide⟩

/-! ### Host programs (R103, R104) -/

theorem test_expand_probe :
    (Pseudo.probe 0x50).expand = [.request (.hwrite 0x002 0x50), .request (.hwrite 0x003 0), .request (.hwrite 0x004 0),
      .request .transaction] := by decide
theorem test_expand_xferAip :
    (Pseudo.xferAip 0 0xA0 [0x01] 2).expand = [.request (.hwrite 0x001 8), .request (.hwrite 0x100 0xA0),
      .request (.hwrite 0x101 0x01), .request (.hwrite 0x003 2), .request (.hwrite 0x004 2), .request .transaction] := by decide
/-- `WAITDONE` polls on while `DONE` is 0 and is over after the read that finds it 1; a request is over at once. -/
theorem test_waitDone_repeats_until_done :
    let left (o : Host.Outcome (List HostLine × State) Fault Refusal) : Option (List HostLine) :=
      match o with
      | .next p => some p.1
      | .fault _ => none
      | .refused _ => none
    left (runProgram 1 [.waitDone] (base [quiet])) = some [.waitDone]
      ∧ left (runProgram 1 [.waitDone] { base [quiet] with done := true }) = some []
      ∧ left (runProgram 1 [.request (.hread 0x008), .waitDone] (base [quiet])) = some [.waitDone] := by decide

/-! ### Free values: what the spec fixes around them -/

/-- An unwritten `TXBUF` byte reads as a free byte in bits 7:0 and 0 above (R64). -/
theorem test_unwritten_txbuf_reads_free :
    got (exec (.hread 0x103) (base [quiet])) (fun t => t.hRdata) = some ((Config.freeTxByte 0 3).setWidth 32) := rfl

/-! ### Witnesses: states and operands that meet the hypotheses of each statement together -/

theorem witness_ResetInputOverridesEverything : (base [{ quiet with rst := true }]).cur.rst = true := by decide

theorem witness_RestingCycleRunsTheHostRequest :
    let s := base [portWrite 0x002 0x50]
    let f := { base [portRead 0x008] with seq := .fault, fault := true }
    (s.cur.rst = false ∧ (s.seq = .idle ∨ s.seq = .fault) ∧ s.cur.hSel = true)
      ∧ (f.cur.rst = false ∧ (f.seq = .idle ∨ f.seq = .fault) ∧ f.cur.hSel = true)
      ∧ ((base [quiet]).cur.rst = false ∧ (base [quiet]).cur.hSel = false) := by decide

/-- Each of the five line ops, and step 3 of `B_START` and `B_STOP`. -/
theorem witness_LineOpCycleRunsTheDecodedOperation :
    let ok (s : State) (l : BitVec 3) : Prop := s.cur.rst = false ∧ s.busy = true ∧ s.atLineOp = true ∧ s.lop = l
    ok (running .wStart .start 0) Lop.sclLo ∧ ok (running .wStart .start 1) Lop.sdaHi
      ∧ ok (running .wStart .start 2) Lop.sclHi ∧ ok (running .wStart .start 3) Lop.sdaLo
      ∧ ok (running .wStop .stop 3) Lop.sdaHi ∧ ok (running .wAddr .out 34) Lop.sdaRd := by decide

/-- The smallest and the largest word of each format. -/
theorem witness_PlacedWordIsTheNextOperation :
    decodeTableWord 8 0 = some .sclLo ∧ decodeTableWord 8 6 = some .sdaRd
      ∧ decodeTableWord 16 0 = some .bInit ∧ decodeTableWord 16 0x900 = some (.bIn true)
      ∧ decodeTableWord 48 0 = some (.hread 0) ∧ decodeTableWord 48 0x7FFFFFFFFFF = some (.hwrite 0x3FF 0xFFFFFFFF)
      ∧ ((base []).seq = .idle ∨ (base []).seq = .fault) := by decide

theorem witness_BusyCycleIsTheEnginesAlone :
    let s := running .wAddr .out 0
    s.cur.rst = false ∧ s.busy = true ∧ s.seq ≠ .idle ∧ s.seq ≠ .fault := by decide

theorem witness_RestingEngineChangesNothing :
    let s := base [portWrite 0x002 0x50]
    let f := { base [portWrite 0x000 1] with seq := .fault, fault := true }
    (s.cur.rst = false ∧ (s.seq = .idle ∨ s.seq = .fault ∧ s.fault = true) ∧ s.acceptsGo = false ∧ ∃ t, step s = .next t)
      ∧ (f.cur.rst = false ∧ (f.seq = .idle ∨ f.seq = .fault ∧ f.fault = true) ∧ f.acceptsGo = false
        ∧ ∃ t, step f = .next t) :=
  ⟨⟨by decide, by decide, by decide, _, rfl⟩, by decide, by decide, by decide, _, rfl⟩

theorem witness_FailedLineWriteTakesFatalAbort :
    (Instr.sdaHi = .sclLo ∨ Instr.sdaHi = .sclHi ∨ Instr.sdaHi = .sdaLo ∨ Instr.sdaHi = .sdaHi)
      ∧ (base [{ quiet with ioWrErr := true }]).cur.ioWrErr = true := by decide

/-- A wait state, a delay and a completion cycle set no line; a cycle without `SDA_RD` that reads `STATUS` reads none. -/
theorem witness_BusInputsMatterOnlyWhereExamined :
    let s := running .wAddr .out 34
    let d := { running .wAddr .out 33 with dly := 1 }
    let r := { running .wAddr .out 33 with ins := [portRead 0x008] }
    (s.ins = s.cur :: s.ins.tail ∧ s.setsLine = false) ∧ (d.ins = d.cur :: d.ins.tail ∧ d.setsLine = false)
      ∧ (r.ins = portRead 0x008 :: [] ∧ r.readsLine = false
        ∧ ¬ ((portRead 0x008).hSel = true ∧ (portRead 0x008).hWe = false ∧ (portRead 0x008).hIdx = 0x00B#10)) := by decide

theorem witness_SetOpsAreIdempotent :
    (Instr.sclLo = .sclLo ∨ Instr.sclLo = .sclHi ∨ Instr.sclLo = .sdaLo ∨ Instr.sclLo = .sdaHi)
      ∧ (base [quiet]).cur.ioWrErr = false := by decide

/-- A step that changes SCL with a tail of 10 cycles, all of them without reset. -/
theorem witness_OneLineChangesAndThenBothAreStable :
    let s := { running .wStart .start 0 with cfg := 0 }
    s.cur.rst = false ∧ s.writeFails = false
      ∧ ∃ t, step s = .next t ∧ t.sclDir ≠ s.sclDir ∧ 10 ≤ 2 * s.quarter ∧ t.noResetFor 10 :=
  ⟨by decide, by decide, _, rfl, by decide, by decide, by unfold State.noResetFor; decide⟩

theorem witness_TailCountsDownAndNothingElse :
    let s := { running .wStart .start 1 with dly := 10 }
    s.seq.command.isSome = true ∧ s.busy = true ∧ 10 ≤ s.dly.toNat ∧ s.noResetFor 10 :=
  ⟨by decide, by decide, by decide, by unfold State.noResetFor; decide⟩

theorem witness_BInitReleasesTheBus :
    let s := running .init .stop 4
    s.seq.command = some .init ∧ s.busy = true ∧ s.dly = 0 ∧ s.quietFor (2 * s.opCycles) :=
  ⟨by decide, by decide, by decide, by unfold State.quietFor; decide⟩

theorem witness_BStartOpensTheBus :
    let s := running .rStart .stop 4
    s.seq.command = some .start ∧ s.busy = true ∧ s.dly = 0 ∧ s.quietFor (4 * s.opCycles) :=
  ⟨by decide, by decide, by decide, by unfold State.quietFor; decide⟩

theorem witness_BStopFreesTheBus :
    let s := running .abStop .out 36
    s.seq.command = some .stop ∧ s.busy = true ∧ s.dly = 0 ∧ s.quietFor (4 * s.opCycles) :=
  ⟨by decide, by decide, by decide, by unfold State.quietFor; decide⟩

theorem witness_BOutRecordsTheAcknowledge :
    let s := running .wData .out 36
    s.seq.command = some .out ∧ s.busy = true ∧ s.dly = 0 ∧ s.quietFor (35 * s.opCycles + 1) :=
  ⟨by decide, by decide, by decide, by unfold State.quietFor; decide⟩

theorem witness_BInReceivesTheByte :
    let s := running .rData .out 36
    s.seq.command = some .inp ∧ s.busy = true ∧ s.dly = 0 ∧ s.quietFor (20 * s.opCycles + 8) :=
  ⟨by decide, by decide, by decide, by unfold State.quietFor; decide⟩

theorem witness_ByteCommandExecutesExactlyItsList :
    let s := running .rAddr .out 0
    s.seq.command = some .out ∧ s.bop = .out ∧ s.ustep = 0 ∧ s.dly = 0 ∧ s.busy = true ∧ s.quietFor (s.commandCycles .out) :=
  ⟨by decide, by decide, by decide, by decide, by decide, by unfold State.quietFor; decide⟩

/-- No hypotheses; its cases: ignored, rejected at the first illegal `WLEN`, accepted at the last legal values. -/
theorem witness_GoStartsOrRejectsTheTransaction :
    let ignored := { base [quiet] with seq := .fault, fault := true }
    let rejected := { base [quiet] with wlen := 33 }
    let accepted := { base [quiet] with wlen := 32, rlen := 32, retry := 255 }
    (ignored.busy = false ∧ ignored.seq ≠ .idle)
      ∧ (rejected.busy = false ∧ rejected.seq = .idle ∧ rejected.fault = false ∧ rejected.wlen.toNat > rejected.par.txDepth)
      ∧ (accepted.busy = false ∧ accepted.seq = .idle ∧ accepted.fault = false ∧ accepted.badDescriptor = false) := by decide

theorem witness_StartPhasesFollowInOrder :
    (running .init .init 2).completes .init ∧ (running .wStart .start 4).completes .wStart
      ∧ (running .rStart .start 4).completes .rStart := by unfold State.completes; decide

/-- NAK, ACK with a payload, ACK without. -/
theorem witness_WriteAddressCompletion :
    (running .wAddr .out 36).completes .wAddr ∧ ({ running .wAddr .out 36 with ack := true, wlen := 1 } : State).completes .wAddr
      ∧ ({ running .wAddr .out 36 with ack := true } : State).completes .wAddr := by unfold State.completes; decide

theorem witness_PayloadByteCompletion :
    (running .wData .out 36).completes .wData
      ∧ ({ running .wData .out 36 with ack := true, wlen := 2 } : State).completes .wData
      ∧ ({ running .wData .out 36 with ack := true, wlen := 1 } : State).completes .wData := by unfold State.completes; decide

theorem witness_StopsEndThePhaseOrTheTransaction :
    ((running .wStop .stop 4).completes .wStop ∧ (running .wStop .stop 4).rlen = 0)
      ∧ (({ running .wStop .stop 4 with rlen := 1 } : State).completes .wStop
        ∧ ({ running .wStop .stop 4 with rlen := 1 } : State).rlen ≠ 0)
      ∧ (running .abStop .stop 4).completes .abStop ∧ (running .rStop .stop 4).completes .rStop := by
  unfold State.completes; decide

theorem witness_ReadAddressCompletion :
    (running .rAddr .out 36).completes .rAddr ∧ ({ running .rAddr .out 36 with ack := true } : State).completes .rAddr := by
  unfold State.completes; decide

theorem witness_ReadAddressRetryOrFailure :
    ((running .rnStop .stop 4).completes .rnStop ∧ (running .rnStop .stop 4).tries = (running .rnStop .stop 4).retry)
      ∧ (({ running .rnStop .stop 4 with retry := 1 } : State).completes .rnStop
        ∧ ({ running .rnStop .stop 4 with retry := 1 } : State).tries
          ≠ ({ running .rnStop .stop 4 with retry := 1 } : State).retry) := by
  unfold State.completes; decide

theorem witness_ReceivedByteIsStored :
    ({ running .rData .inp 28 with rlen := 1 } : State).completes .rData
      ∧ ({ running .rData .inp 28 with rlen := 2 } : State).completes .rData := by unfold State.completes; decide

theorem witness_WaitStateLastsItsCount :
    let s := { running .preWait .stop 0 with wcnt := 10 }
    let z := running .retryWait .stop 0
    ((s.seq = .preWait ∨ s.seq = .retryWait) ∧ s.busy = true ∧ s.noResetFor (s.wcnt + 1))
      ∧ ((z.seq = .preWait ∨ z.seq = .retryWait) ∧ z.busy = true ∧ z.noResetFor (z.wcnt + 1)) := by
  unfold State.noResetFor; decide

/-- A change by completion, one by a failing write, one by reset. -/
theorem witness_SeqMovesOnlyAlongTheTable :
    let a := running .init .init 2
    let b := { running .init .init 0 with ins := [{ quiet with ioWrErr := true }] }
    let c := { running .init .init 0 with ins := [{ quiet with rst := true }] }
    (∃ t, step a = .next t ∧ t.seq ≠ a.seq ∧ a.completing = true) ∧ (∃ t, step b = .next t ∧ t.seq ≠ b.seq ∧ b.writeFails = true)
      ∧ ∃ t, step c = .next t ∧ t.seq ≠ c.seq ∧ c.cur.rst = true :=
  ⟨⟨_, rfl, by decide, by decide⟩, ⟨_, rfl, by decide, by decide⟩, _, rfl, by decide, by decide⟩

/-- `ack`, `RDERR_SEEN`, `START_OPEN`, `FAULT`, `NAK_SEEN` and the transaction flags each change in some cycle. -/
theorem witness_FlagsChangeOnlyWhereR44Says :
    let a := { running .wAddr .out 34 with ins := [{ quiet with sdaI := false }] }
    let r := { running .wAddr .out 34 with ins := [{ quiet with ioRdErr := true }] }
    let o := running .wStart .start 3
    let f := { running .wStart .start 3 with ins := [{ quiet with ioWrErr := true }] }
    let k := running .wAddr .out 36
    let d := running .rStop .stop 4
    (a.cur.rst = false ∧ ∃ t, step a = .next t ∧ t.ack ≠ a.ack)
      ∧ (r.cur.rst = false ∧ ∃ t, step r = .next t ∧ t.rderrSeen ≠ r.rderrSeen)
      ∧ (o.cur.rst = false ∧ ∃ t, step o = .next t ∧ t.startOpen ≠ o.startOpen)
      ∧ (f.cur.rst = false ∧ ∃ t, step f = .next t ∧ t.fault ≠ f.fault)
      ∧ (k.cur.rst = false ∧ ∃ t, step k = .next t ∧ t.nakSeen ≠ k.nakSeen)
      ∧ (d.cur.rst = false ∧ ∃ t, step d = .next t ∧ t.busy ≠ d.busy ∧ t.done ≠ d.done ∧ t.ok ≠ d.ok) :=
  ⟨⟨by decide, _, rfl, by decide⟩, ⟨by decide, _, rfl, by decide⟩, ⟨by decide, _, rfl, by decide⟩,
    ⟨by decide, _, rfl, by decide⟩, ⟨by decide, _, rfl, by decide⟩, by decide, _, rfl, by decide, by decide, by decide⟩

/-- A received byte, and a host write to the last byte of `TXBUF`. -/
theorem witness_BuffersChangeOnlyByTheirWriters :
    let r := { running .rData .inp 28 with rlen := 1 }
    let w := base [portWrite 0x11F 0x77]
    (r.cur.rst = false ∧ ∃ t, step r = .next t ∧ t.rxbuf ≠ r.rxbuf)
      ∧ (w.cur.rst = false ∧ ∃ t, step w = .next t ∧ t.txbuf ≠ w.txbuf) :=
  ⟨⟨by decide, _, rfl, by decide⟩, by decide, _, rfl, by decide⟩

theorem witness_InvariantHoldsAtReset : par.wf = true := by decide

/-! The invariant of a few states, one by one. -/

/-- The invariant's parts of a state with empty buffers, busy or idle, from the numbers in it. -/
theorem inv_base (l : List CycleIn) : Inv (base l) :=
  ⟨⟨(by decide : par.wf = true), List.Pairwise.nil, List.Pairwise.nil, by simp [base, State.atReset], by simp [base, State.atReset]⟩,
    by constructor <;> simp [base, State.atReset, Seq.command],
    by constructor <;> simp [base, State.atReset, Seq.readPhase],
    ⟨.inl rfl, rfl, fun _ => rfl⟩⟩

/-- Step `u` of the STOP after a NAKed address byte, lines as R146 has them before its last step (`u = 3`) or after (`u = 4`). -/
def abortStop (u : BitVec 6) (sda : Dir) (opened : Bool) : State :=
  { running .abStop .stop u with
    sdaDir := sda, startOpen := opened, failCode := .wAddrNak, failByte := 0xA0, nakSeen := true, a7 := 0x50 }

theorem inv_abortStop (u : BitVec 6) (sda : Dir) (opened : Bool) (hu : u = 3 ∧ sda = .out ∧ opened = true
    ∨ u = 4 ∧ sda = .inp ∧ opened = false) : Inv (abortStop u sda opened) := by
  rcases hu with ⟨rfl, rfl, rfl⟩ | ⟨rfl, rfl, rfl⟩ <;>
    exact ⟨⟨(by decide : par.wf = true), List.Pairwise.nil, List.Pairwise.nil, by simp [abortStop, running, base, State.atReset],
        by simp [abortStop, running, base, State.atReset]⟩,
      by constructor <;> simp [abortStop, running, base, State.atReset, Seq.command, Bop.len],
      by constructor <;> simp [abortStop, running, base, State.atReset, Seq.readPhase, State.badDescriptor, State.aip, par],
      by simp [LineInv, abortStop, running, base, State.atReset, Seq.command, stopLines, State.sclHigh]⟩

theorem witness_EveryStepKeepsTheInvariant : ∃ s t, Inv s ∧ step s = .next t :=
  ⟨abortStop 3 .out true, _, inv_abortStop _ _ _ (.inl ⟨rfl, rfl, rfl⟩), rfl⟩

/-- The last step of a STOP: SDA rises with SCL high. -/
theorem witness_SdaChangesOnlyWhileSclIsLow :
    let s := abortStop 3 .out true
    Inv s ∧ s.cur.rst = false ∧ s.writeFails = false
      ∧ ∃ t, step s = .next t ∧ t.sdaDir ≠ s.sdaDir ∧ s.atLineOp = true ∧ s.bop = .stop ∧ s.ustep = 3 :=
  ⟨inv_abortStop _ _ _ (.inl ⟨rfl, rfl, rfl⟩), by decide, by decide, _, rfl, by decide, by decide, rfl, rfl⟩

theorem witness_DoneWithoutFaultMeansIdleBus :
    let s := { base [] with done := true, ok := true }
    Inv s ∧ s.done = true ∧ s.fault = false := by
  obtain ⟨hb, hc, hd, hl⟩ := inv_base []
  refine ⟨⟨⟨hb.par, hb.txForm, hb.rxForm, hb.txInside, hb.rxInside⟩, ?_, ?_, hl⟩, rfl, rfl⟩
  · constructor <;> simp [base, State.atReset, Seq.command]
  · constructor <;> simp [base, State.atReset, Seq.readPhase]

/-- The completion of the STOP after a NAK. -/
theorem witness_FailureLeavesTheBusFree :
    let s := abortStop 4 .inp false
    Inv s ∧ s.cur.rst = false ∧ s.busy = true
      ∧ ∃ t, step s = .next t ∧ t.busy = false ∧ t.fault = false ∧ t.failCode ≠ .none :=
  ⟨inv_abortStop _ _ _ (.inr ⟨rfl, rfl, rfl⟩), by decide, by decide, _, rfl, by decide, by decide, by decide⟩

theorem witness_CountersNeverWrap :
    let s := abortStop 4 .inp false
    Inv s ∧ s.cur.rst = false ∧ s.busy = true ∧ ∃ t, step s = .next t :=
  ⟨inv_abortStop _ _ _ (.inr ⟨rfl, rfl, rfl⟩), by decide, by decide, _, rfl⟩

/-- A transaction under way, and an idle block whose host writes GO. -/
theorem witness_EveryTransactionEnds :
    let s := abortStop 4 .inp false
    let g := base [portWrite 0x000 1]
    (Inv s ∧ (∀ k, (s.inputAt k).rst = false) ∧ s.busy = true)
      ∧ (Inv g ∧ (∀ k, (g.inputAt k).rst = false) ∧ g.acceptsGo = true) := by
  refine ⟨⟨inv_abortStop _ _ _ (.inr ⟨rfl, rfl, rfl⟩), fun k => ?_, rfl⟩, inv_base _, fun k => ?_, by decide⟩
  · have hin : (abortStop 4 .inp false).ins = List.replicate 60 { quiet with sdaI := false } := rfl
    simp only [State.inputAt, hin, List.drop_replicate]
    cases 60 - k <;> rfl
  · rcases k with _ | _ | k <;> rfl

/-- `ADDR = 0x50`, `TXBUF = [0x01]`, and `TXBUF = [0xA1, 0x01]` in embedded-address mode (V38). -/
theorem witness_AddressModesAreEquivalent :
    let s := { base (List.replicate 60 quiet) with addr := 0x50, wlen := 1, txbuf := [(0, 0x01)] }
    let t := { s with cfg := 8, wlen := 2, txbuf := [(0, 0xA1), (1, 0x01)] }
    AipPair s t ∧ s.par.wf = true ∧ s.ready ∧ ∀ k < 60, (s.inputAt k).rst = false ∧ (s.inputAt k).hSel = false := by
  refine ⟨⟨rfl, by decide, rfl, by decide, ?_⟩, by decide, ⟨rfl, rfl, rfl, rfl⟩, by decide⟩
  intro i hi
  have : i = 0 := by
    have h1 : i < 1 := hi
    omega
  subst this
  rfl

/-- The probe of address 0 in skip-delay mode: 50 cycles (V39). -/
theorem witness_StuckLowTransactionEndsOnTime :
    let s := { base (List.replicate 50 { quiet with sdaI := false }) with cfg := 2 }
    s.par.wf = true ∧ s.ready ∧ s.badDescriptor = false ∧ s.rlen.toNat = 0 ∧ s.writeCycles (s.wlen.toNat - s.first) = 50 ∧
      ∀ k < 50, (s.inputAt k).rst = false ∧ (s.inputAt k).sdaI = false ∧ (s.inputAt k).ioRdErr = false
        ∧ (s.inputAt k).ioWrErr = false :=
  ⟨by decide, ⟨rfl, rfl, rfl, rfl⟩, by decide, by decide, by decide, by decide⟩

/-- The read of one byte after an empty write phase, without wait, in skip-delay mode: 50 + 77 cycles. -/
theorem witness_StuckLowTransactionEndsOnTime_read :
    let s := { base (List.replicate 127 { quiet with sdaI := false }) with cfg := 2, rlen := 1 }
    s.par.wf = true ∧ s.ready ∧ s.badDescriptor = false ∧ s.rlen.toNat = 1
      ∧ s.writeCycles (s.wlen.toNat - s.first) + s.readCycles 1 = 127 ∧
      ∀ k < 127, (s.inputAt k).rst = false ∧ (s.inputAt k).sdaI = false ∧ (s.inputAt k).ioRdErr = false
        ∧ (s.inputAt k).ioWrErr = false :=
  ⟨by decide, ⟨rfl, rfl, rfl, rfl⟩, by decide, by decide, by decide, by decide⟩

theorem witness_AbsentSlaveFailsAtTheAddress :
    let s := { base (List.replicate 50 quiet) with cfg := 2 }
    s.ready ∧ s.badDescriptor = false ∧ s.cfg.getLsbD 2 = false ∧ s.writeCycles 0 = 50 ∧ s.quietFor 50 ∧
      ∀ k < 50, s.sampleAt k = true :=
  ⟨⟨rfl, rfl, rfl, rfl⟩, by decide, by decide, by decide, by unfold State.quietFor; decide, by decide⟩

/-- The boundary indices of the map: the last register, the first and last reserved indices around the buffers. -/
theorem witness_HostReadReturnsTheRegister :
    (base []).par.wf = true ∧ 31 < (base []).par.txDepth ∧ 31 < (base []).par.rxDepth
      ∧ (0x00C ≤ (0x00C#10).toNat ∧ (0x00C#10).toNat < 0x100) ∧ (0x00C ≤ (0x0FF#10).toNat ∧ (0x0FF#10).toNat < 0x100)
      ∧ (0x100 + (base []).par.txDepth ≤ (0x120#10).toNat ∧ (0x120#10).toNat < 0x200)
      ∧ 0x200 + (base []).par.rxDepth ≤ (0x220#10).toNat ∧ 0x200 + (base []).par.rxDepth ≤ (0x3FF#10).toNat := by decide

/-- Busy, and not busy at the boundary indices and both values of GO. -/
theorem witness_HostWriteStoresTheRegister :
    (running .wAddr .out 0).par.wf = true ∧ (running .wAddr .out 0).busy = true
      ∧ (base []).par.wf = true ∧ (base []).busy = false ∧ 31 < (base []).par.txDepth
      ∧ (0xFFFFFFFE#32).getLsbD 0 = false ∧ (1#32).getLsbD 0 = true
      ∧ (0x008 ≤ (0x008#10).toNat ∧ (0x008#10).toNat < 0x100)
      ∧ 0x100 + (base []).par.txDepth ≤ (0x120#10).toNat ∧ 0x100 + (base []).par.txDepth ≤ (0x3FF#10).toNat := by decide

theorem witness_TxbufWriteReadsBack :
    (base []).par.wf = true ∧ (base []).busy = false ∧ 0 < (base []).par.txDepth ∧ 31 < (base []).par.txDepth := by decide

theorem witness_ReadsReturnTheValueBeforeTheEdge :
    let s := { running .rStop .stop 4 with ins := [portRead 0x008] }
    s.cur.rst = false ∧ ∃ t, step s = .next t ∧ s.cur.hSel = true ∧ s.cur.hWe = false :=
  ⟨by decide, _, rfl, by decide, by decide⟩

/-- `XFER 0x50, [0x01, 0x23], 1` (R104) with `WAITDONE` after it; a cycle of `WAITDONE` before and after `DONE`. -/
theorem witness_XferProgramStartsTheTransaction :
    let s := base [quiet]
    (s.par.wf = true ∧ s.ready ∧ s.cfg.getLsbD 3 = false ∧ [(0x01 : Byte), 0x23].length ≤ s.par.txDepth
      ∧ ((1 : Reg).extractLsb' 0 16).toNat ≤ s.par.rxDepth ∧ s.retry.toNat ≤ s.par.retryMax
      ∧ s.noResetFor ([(0x01 : Byte), 0x23].length + 4))
      ∧ (s.cur.rst = false ∧ s.done = false)
      ∧ (({ s with done := true } : State).cur.rst = false ∧ ({ s with done := true } : State).done = true) :=
  ⟨⟨by decide, ⟨rfl, rfl, rfl, rfl⟩, by decide, by decide, by decide, by decide, by unfold State.noResetFor; decide⟩,
    by decide, by decide⟩

theorem witness_DecodeOfEncodeIsTheOperation :
    (Instr.bOut 0xFF).wf = true ∧ (Instr.hwrite 0x000 0xFFFFFFFE).wf = true ∧ (Instr.hwrite 0x001 0x1).wf = true := by decide

theorem witness_EncodeOfDecodeIsTheWord :
    decode (.l 0b110#3) = .ok .sdaRd ∧ decode (.b 0x6FF#12) = .ok (.bOut 0xFF) ∧ decode (.h 0x003FFFFFFFF#43) = .ok (.hread 3) :=
  ⟨rfl, rfl, rfl⟩

theorem witness_ReservedCodesAreRefused :
    (0b100#3 = 0b100#3 ∨ 0b100#3 = 0b101#3 ∨ 0b100#3 = 0b111#3) ∧ 5 ≤ ((0xA00#12).extractLsb' 9 3).toNat
      ∧ 5 ≤ ((0xFFF#12).extractLsb' 9 3).toNat := by decide

end Sys2Proof.Tests
end

section
/-! PROOFS. What entering a sequencer state writes, and when it keeps the invariant. -/

namespace Sys2Proof.Machine

/-! ### What `entered` writes (R173) -/

/-- Entering a state writes the pc, the loads of the byte command and `wcnt`, nothing else. -/
theorem entered_eq (s : State) (q : Seq) (n : BitVec 9) :
    s.entered q n = { s with
      seq := q
      ustep := 0
      wcnt := s.waitLoad q
      bop := q.command.getD s.bop
      bdata := (s.entered q n).bdata
      blast := (s.entered q n).blast } := by
  cases q <;> rfl

@[simp] theorem entered_seq (s : State) (q : Seq) (n : BitVec 9) : (s.entered q n).seq = q := by rw [entered_eq]
@[simp] theorem entered_ustep (s : State) (q : Seq) (n : BitVec 9) : (s.entered q n).ustep = 0 := by rw [entered_eq]
@[simp] theorem entered_wcnt (s : State) (q : Seq) (n : BitVec 9) : (s.entered q n).wcnt = s.waitLoad q := by
  rw [entered_eq]
@[simp] theorem entered_bop (s : State) (q : Seq) (n : BitVec 9) :
    (s.entered q n).bop = q.command.getD s.bop := by rw [entered_eq]
@[simp] theorem entered_par (s : State) (q : Seq) (n : BitVec 9) : (s.entered q n).par = s.par := by rw [entered_eq]
@[simp] theorem entered_sclDir (s : State) (q : Seq) (n : BitVec 9) : (s.entered q n).sclDir = s.sclDir := by
  rw [entered_eq]
@[simp] theorem entered_sclVal (s : State) (q : Seq) (n : BitVec 9) : (s.entered q n).sclVal = s.sclVal := by
  rw [entered_eq]
@[simp] theorem entered_sdaDir (s : State) (q : Seq) (n : BitVec 9) : (s.entered q n).sdaDir = s.sdaDir := by
  rw [entered_eq]
@[simp] theorem entered_ack (s : State) (q : Seq) (n : BitVec 9) : (s.entered q n).ack = s.ack := by rw [entered_eq]
@[simp] theorem entered_a7 (s : State) (q : Seq) (n : BitVec 9) : (s.entered q n).a7 = s.a7 := by rw [entered_eq]
@[simp] theorem entered_widx (s : State) (q : Seq) (n : BitVec 9) : (s.entered q n).widx = s.widx := by rw [entered_eq]
@[simp] theorem entered_ridx (s : State) (q : Seq) (n : BitVec 9) : (s.entered q n).ridx = s.ridx := by rw [entered_eq]
@[simp] theorem entered_tries (s : State) (q : Seq) (n : BitVec 9) : (s.entered q n).tries = s.tries := by
  rw [entered_eq]
@[simp] theorem entered_dly (s : State) (q : Seq) (n : BitVec 9) : (s.entered q n).dly = s.dly := by rw [entered_eq]
@[simp] theorem entered_cfg (s : State) (q : Seq) (n : BitVec 9) : (s.entered q n).cfg = s.cfg := by rw [entered_eq]
@[simp] theorem entered_wlen (s : State) (q : Seq) (n : BitVec 9) : (s.entered q n).wlen = s.wlen := by rw [entered_eq]
@[simp] theorem entered_rlen (s : State) (q : Seq) (n : BitVec 9) : (s.entered q n).rlen = s.rlen := by rw [entered_eq]
@[simp] theorem entered_retry (s : State) (q : Seq) (n : BitVec 9) : (s.entered q n).retry = s.retry := by
  rw [entered_eq]
@[simp] theorem entered_busy (s : State) (q : Seq) (n : BitVec 9) : (s.entered q n).busy = s.busy := by rw [entered_eq]
@[simp] theorem entered_done (s : State) (q : Seq) (n : BitVec 9) : (s.entered q n).done = s.done := by rw [entered_eq]
@[simp] theorem entered_ok (s : State) (q : Seq) (n : BitVec 9) : (s.entered q n).ok = s.ok := by rw [entered_eq]
@[simp] theorem entered_nakSeen (s : State) (q : Seq) (n : BitVec 9) : (s.entered q n).nakSeen = s.nakSeen := by
  rw [entered_eq]
@[simp] theorem entered_rderrSeen (s : State) (q : Seq) (n : BitVec 9) : (s.entered q n).rderrSeen = s.rderrSeen := by
  rw [entered_eq]
@[simp] theorem entered_fault (s : State) (q : Seq) (n : BitVec 9) : (s.entered q n).fault = s.fault := by
  rw [entered_eq]
@[simp] theorem entered_startOpen (s : State) (q : Seq) (n : BitVec 9) : (s.entered q n).startOpen = s.startOpen := by
  rw [entered_eq]
@[simp] theorem entered_failCode (s : State) (q : Seq) (n : BitVec 9) : (s.entered q n).failCode = s.failCode := by
  rw [entered_eq]
@[simp] theorem entered_failIndex (s : State) (q : Seq) (n : BitVec 9) : (s.entered q n).failIndex = s.failIndex := by
  rw [entered_eq]
@[simp] theorem entered_rxcnt (s : State) (q : Seq) (n : BitVec 9) : (s.entered q n).rxcnt = s.rxcnt := by
  rw [entered_eq]
@[simp] theorem entered_txbuf (s : State) (q : Seq) (n : BitVec 9) : (s.entered q n).txbuf = s.txbuf := by
  rw [entered_eq]
@[simp] theorem entered_rxbuf (s : State) (q : Seq) (n : BitVec 9) : (s.entered q n).rxbuf = s.rxbuf := by
  rw [entered_eq]
@[simp] theorem entered_epoch (s : State) (q : Seq) (n : BitVec 9) : (s.entered q n).epoch = s.epoch := by
  rw [entered_eq]

/-! ### What the derived quantities read -/

/-- The bytes of `TXBUF` depend on the buffer and the count of resets alone. -/
theorem txByte_congr {s t : State} (hb : t.txbuf = s.txbuf) (he : t.epoch = s.epoch) (i : Nat) : t.txByte i = s.txByte i := by
  simp only [State.txByte, hb, he]

@[simp] theorem entered_first (s : State) (q : Seq) (n : BitVec 9) : (s.entered q n).first = s.first := by
  rw [entered_eq]; rfl

@[simp] theorem entered_badDescriptor (s : State) (q : Seq) (n : BitVec 9) :
    (s.entered q n).badDescriptor = s.badDescriptor := by
  rw [entered_eq]; rfl

theorem entered_txByte (s : State) (q : Seq) (n : BitVec 9) (i : Nat) : (s.entered q n).txByte i = s.txByte i :=
  txByte_congr (entered_txbuf s q n) (entered_epoch s q n) i

/-- Entering a state moves no line. -/
@[simp] theorem entered_sclHigh (s : State) (q : Seq) (n : BitVec 9) : (s.entered q n).sclHigh ↔ s.sclHigh := by
  simp only [State.sclHigh, entered_sclDir, entered_sclVal]

@[simp] theorem entered_sclLow (s : State) (q : Seq) (n : BitVec 9) : (s.entered q n).sclLow ↔ s.sclLow := by
  simp only [State.sclLow, entered_sclDir, entered_sclVal]

/-- A resting engine runs no byte command. -/
theorem Seq.command_of_engineIdle {q : Seq} (h : q.engineIdle = true) : q.command = none := by
  revert h
  cases q <;> decide

/-- A state that runs a byte command is no resting one. -/
theorem Seq.engineIdle_of_command {q : Seq} (h : q.command.isSome = true) : q.engineIdle = false := by
  revert h
  cases q <;> decide

/-- Only `S_RDATA` runs `B_IN` (R28). -/
theorem Seq.eq_rData_of_command {q : Seq} (h : q.command = some .inp) : q = .rData := by
  revert h
  cases q <;> decide

theorem Seq.engineIdle_iff (q : Seq) : q.engineIdle = true ↔ q = .idle ∨ q = .fault := by
  cases q <;> decide

theorem BufferInv.congr {s t : State} (h : BufferInv s) (hp : t.par = s.par) (ht : t.txbuf = s.txbuf)
    (hr : t.rxbuf = s.rxbuf) : BufferInv t where
  par := hp ▸ h.par
  txForm := ht ▸ h.txForm
  rxForm := hr ▸ h.rxForm
  txInside := by rw [hp, ht]; exact h.txInside
  rxInside := by rw [hp, hr]; exact h.rxInside

/-! ### When the sequencer may enter a state -/

/-- A transaction runs and no delay does: the part of the invariant in which the sequencer states do not differ. -/
structure Running (s : State) : Prop where
  buffers : BufferInv s
  busy : s.busy = true
  done : s.done = false
  ok : s.ok = false
  fault : s.fault = false
  dly : s.dly = 0
  wcnt : s.wcnt < 2 ^ s.par.wcntWidth
  legal : s.badDescriptor = false
  tries : s.tries.toNat ≤ s.retry.toNat

/-- The lines and `START_OPEN` with which a sequencer state is entered (R153). -/
def entryLines (s : State) (q : Seq) : Prop :=
  match q.command with
  | none | some .init | some .start => s.sclHigh ∧ s.sdaDir = .inp ∧ s.startOpen = false
  | some .stop => s.sclLow ∧ s.sdaDir = .inp ∧ s.startOpen = true
  | some .out =>
    s.startOpen = true ∧ (q = .wData → s.sclLow ∧ s.sdaDir = .inp) ∧ (q ≠ .wData → s.sclHigh ∧ s.sdaDir = .out)
  | some .inp => s.startOpen = true ∧ s.sclLow

/-- What the sequencer state `q`, entered with buffer index `n`, asks of the counters, the results and the lines. -/
structure EntryPoint (s : State) (q : Seq) (n : BitVec 9) : Prop where
  running : q.engineIdle = false
  payload : q = .wData → s.widx = n ∧ s.first ≤ n.toNat ∧ n.toNat < s.wlen.toNat
  receive : q = .rData → s.ridx = n ∧ s.rxcnt = n ∧ n.toNat < s.rlen.toNat
  reading : q.readPhase = true → 1 ≤ s.rlen.toNat
  notReceived : q ≠ .rData → q ≠ .rStop → s.rxcnt = 0
  allReceived : q = .rStop → s.rxcnt.toNat = s.rlen.toNat
  noFailure : q ≠ .abStop → s.failCode = .none
  lines : entryLines s q

theorem Running.entered_control {s : State} {q : Seq} {n : BitVec 9} (h : Running s) (hq : q.engineIdle = false) :
    ControlInv (s.entered q n) where
  busyIff := by
    have := (Seq.engineIdle_iff q).not.mp (by simp [hq])
    simpa [h.busy] using this
  faultIff := by
    have := (Seq.engineIdle_iff q).not.mp (by simp [hq])
    simpa [h.fault] using fun hf => this (.inr hf)
  doneIdle := by simp [h.done]
  faultDone := by simp [h.fault]
  okDone := by simp [h.ok]
  command := by
    intro b hb
    rw [entered_seq] at hb
    simp [hb]
  noCommand := by simp [h.dly]
  dlyBound := by simp [h.dly]
  wcntBound := by
    rw [entered_wcnt, entered_par]
    exact waitLoad_lt s q h.wcnt

theorem Running.entered_descriptor {s : State} {q : Seq} {n : BitVec 9} (h : Running s) (hp : EntryPoint s q n) :
    DescriptorInv (s.entered q n) where
  legal := by simp [h.legal]
  widxInside := by
    rw [entered_seq]
    intro hq
    obtain ⟨hw, hl, hr⟩ := hp.payload hq
    simpa [hw] using ⟨hl, hr⟩
  ridxInside := by
    rw [entered_seq]
    intro hq
    obtain ⟨hr, -, hl⟩ := hp.receive hq
    simpa [hr] using hl
  reading := by simpa using hp.reading
  triesInside := by simpa using fun _ => h.tries
  received := by
    rw [entered_seq]
    intro hq
    obtain ⟨hr, hx, -⟩ := hp.receive hq
    simp [hr, hx]
  notReceived := by simpa using fun _ => hp.notReceived
  allReceived := by simpa using hp.allReceived
  lastByte := by
    rw [entered_seq]
    intro hq
    obtain ⟨hr, -, -⟩ := hp.receive hq
    rw [entered_ridx, entered_rlen, hr, hq]
    rfl
  sentWAddr := by
    rw [entered_seq]
    rintro rfl
    rfl
  sentWData := by
    rw [entered_seq]
    intro hq
    obtain ⟨hw, -, -⟩ := hp.payload hq
    rw [entered_txByte, entered_widx, hw, hq]
    rfl
  sentRAddr := by
    rw [entered_seq]
    rintro rfl
    rfl
  noFailure := by simpa using fun _ => hp.noFailure

/-- The lines a state is entered with are those before step 0 of its command. -/
theorem entered_lines {s : State} {q : Seq} {n : BitVec 9} (h : entryLines s q) :
    LineInv (s.entered q n) := by
  unfold LineInv
  unfold entryLines at h
  rw [entered_seq, entered_ustep]
  split <;> simp_all [startLines, stopLines, outLines, inLines]

/-- Entering a state at a point that suits it keeps the invariant. -/
theorem Running.inv_entered {s : State} {q : Seq} {n : BitVec 9} (h : Running s) (hp : EntryPoint s q n) :
    Inv (s.entered q n) where
  buffers := h.buffers.congr (entered_par s q n) (entered_txbuf s q n) (entered_rxbuf s q n)
  control := h.entered_control hp.running
  descriptor := h.entered_descriptor hp
  lines := entered_lines hp.lines

end Sys2Proof.Machine
end

section
/-! PROOFS. What a line op does to the lines, and the points of the byte commands before and after it. -/

namespace Sys2Proof.Machine

/-! ### The levels after a line op -/

/-- `SCL_LO` (R123). -/
theorem afterUop_sclLo {s : State} (h : s.lop = Lop.sclLo) :
    s.lineOp.afterUop.sclLow ∧ s.lineOp.afterUop.sdaDir = s.sdaDir := by
  obtain ⟨hlo, -⟩ := lineOp_levels s
  exact hlo h

/-- `SCL_HI` (R124). -/
theorem afterUop_sclHi {s : State} (h : s.lop = Lop.sclHi) :
    s.lineOp.afterUop.sclHigh ∧ s.lineOp.afterUop.sdaDir = s.sdaDir := by
  obtain ⟨-, hhi, -⟩ := lineOp_levels s
  exact hhi h

theorem sclHigh_congr {s t : State} (hd : t.sclDir = s.sclDir) (hv : t.sclVal = s.sclVal) : t.sclHigh ↔ s.sclHigh := by
  simp only [State.sclHigh, hd, hv]

theorem sclLow_congr {s t : State} (hd : t.sclDir = s.sclDir) (hv : t.sclVal = s.sclVal) : t.sclLow ↔ s.sclLow := by
  simp only [State.sclLow, hd, hv]

/-- A set op on SDA leaves SCL as it is (R125, R126). -/
theorem afterUop_sda {s : State} {level : Bool} (h : s.lop = sdaOp level) :
    (s.lineOp.afterUop.sclHigh ↔ s.sclHigh) ∧ (s.lineOp.afterUop.sclLow ↔ s.sclLow)
      ∧ s.lineOp.afterUop.sdaDir = levelDir level := by
  obtain ⟨-, -, hlo, hhi, -⟩ := lineOp_levels s
  cases level with
  | false =>
    obtain ⟨hd, hv, he⟩ := hlo h
    exact ⟨sclHigh_congr hd hv, sclLow_congr hd hv, he⟩
  | true =>
    obtain ⟨hd, hv, he⟩ := hhi h
    exact ⟨sclHigh_congr hd hv, sclLow_congr hd hv, he⟩

/-- A read moves no line (R127). -/
theorem afterUop_sdaRd {s : State} (h : s.lop = Lop.sdaRd) :
    (s.lineOp.afterUop.sclHigh ↔ s.sclHigh) ∧ (s.lineOp.afterUop.sclLow ↔ s.sclLow)
      ∧ s.lineOp.afterUop.sdaDir = s.sdaDir := by
  obtain ⟨-, -, -, -, hrd⟩ := lineOp_levels s
  obtain ⟨hd, hv, he⟩ := hrd h
  exact ⟨sclHigh_congr hd hv, sclLow_congr hd hv, he⟩

/-- Below the end of a byte command `ustep` advances without wrapping (R27). -/
theorem afterUop_ustep_toNat {s : State} (h : s.ustep.toNat < s.bop.len) :
    s.lineOp.afterUop.ustep.toNat = s.ustep.toNat + 1 := by
  have hlen : s.bop.len ≤ 36 := by cases s.bop <;> decide
  simp only [State.afterUop_ustep, lineOp_ustep]
  bv_omega

theorem ustep_eq_three_iff (s : State) : s.ustep = 3 ↔ s.ustep.toNat = 3 :=
  BitVec.toNat_inj.symm

/-- `START_OPEN` moves at step 3 of `B_START` and `B_STOP` only (R145, R146). -/
theorem afterUop_startOpen (s : State) :
    s.lineOp.afterUop.startOpen =
      if s.bop = .start ∧ s.ustep.toNat = 3 then true else if s.bop = .stop ∧ s.ustep.toNat = 3 then false else s.startOpen := by
  simp only [State.afterUop, lineOp_bop, lineOp_startOpen, lineOp_ustep, ustep_eq_three_iff]

theorem afterUop_startOpen_other {s : State} (h1 : s.bop ≠ .start) (h2 : s.bop ≠ .stop) :
    s.lineOp.afterUop.startOpen = s.startOpen := by
  rw [afterUop_startOpen, if_neg (fun h => h1 h.1), if_neg (fun h => h2 h.1)]

theorem afterUop_startOpen_start {s : State} (h : s.bop = .start) :
    s.lineOp.afterUop.startOpen = if s.ustep.toNat = 3 then true else s.startOpen := by
  rw [afterUop_startOpen]
  simp only [h, true_and, reduceCtorEq, false_and, if_false]

theorem afterUop_startOpen_stop {s : State} (h : s.bop = .stop) :
    s.lineOp.afterUop.startOpen = if s.ustep.toNat = 3 then false else s.startOpen := by
  rw [afterUop_startOpen]
  simp only [h, true_and, reduceCtorEq, false_and, if_false]

/-! ### From before a step of a byte command to after it -/

/-- `B_INIT` keeps the bus idle (R143). -/
theorem init_step {s : State} (hb : s.bop = .init) (h : s.sclHigh ∧ s.sdaDir = .inp) :
    s.lineOp.afterUop.sclHigh ∧ s.lineOp.afterUop.sdaDir = .inp := by
  obtain ⟨hscl, hsda⟩ := h
  by_cases hu : s.ustep.toNat = 0
  · obtain ⟨h1, -, h3⟩ := afterUop_sda (level := true) (s := s) (by simp [State.lop, hb, uop, hu, sdaOp])
    exact ⟨h1.mpr hscl, h3⟩
  · obtain ⟨h1, h2⟩ := afterUop_sclHi (s := s) (by simp [State.lop, hb, uop, hu])
    exact ⟨h1, h2.trans hsda⟩

theorem startLines_step {s : State} (hb : s.bop = .start) (hu : s.ustep.toNat < 4) (h : startLines s s.ustep.toNat) :
    startLines s.lineOp.afterUop (s.ustep.toNat + 1) := by
  have hopen := afterUop_startOpen_start hb
  have hlop : s.lop = uop .start s.ustep.toNat s.bdata s.blast := by rw [State.lop, hb]
  generalize s.ustep.toNat = u at *
  obtain ⟨h0, h12, h3, -⟩ := h
  obtain rfl | rfl | rfl | rfl : u = 0 ∨ u = 1 ∨ u = 2 ∨ u = 3 := by omega
  · obtain ⟨-, hsda, ho⟩ := h0 rfl
    obtain ⟨hl, hd⟩ := afterUop_sclLo hlop
    exact ⟨by omega, fun _ => ⟨hl, hd.trans hsda, hopen.trans ho⟩, by omega, by omega⟩
  · obtain ⟨hscl, -, ho⟩ := h12 (.inl rfl)
    obtain ⟨-, hl, hd⟩ := afterUop_sda (level := true) hlop
    exact ⟨by omega, fun _ => ⟨hl.mpr hscl, hd, hopen.trans ho⟩, by omega, by omega⟩
  · obtain ⟨-, hsda, ho⟩ := h12 (.inr rfl)
    obtain ⟨hl, hd⟩ := afterUop_sclHi hlop
    exact ⟨by omega, by omega, fun _ => ⟨hl, hd.trans hsda, hopen.trans ho⟩, by omega⟩
  · obtain ⟨hscl, -, -⟩ := h3 rfl
    obtain ⟨hl, -, hd⟩ := afterUop_sda (level := false) hlop
    exact ⟨by omega, by omega, by omega, fun _ => ⟨hl.mpr hscl, hd, hopen⟩⟩

theorem stopLines_step {s : State} (hb : s.bop = .stop) (hu : s.ustep.toNat < 4) (h : stopLines s s.ustep.toNat) :
    stopLines s.lineOp.afterUop (s.ustep.toNat + 1) := by
  have hopen := afterUop_startOpen_stop hb
  have hlop : s.lop = uop .stop s.ustep.toNat s.bdata s.blast := by rw [State.lop, hb]
  generalize s.ustep.toNat = u at *
  obtain ⟨h01, h2, h3, -⟩ := h
  obtain rfl | rfl | rfl | rfl : u = 0 ∨ u = 1 ∨ u = 2 ∨ u = 3 := by omega
  · obtain ⟨-, hsda, ho⟩ := h01 (.inl rfl)
    obtain ⟨hl, hd⟩ := afterUop_sclLo hlop
    exact ⟨fun _ => ⟨hl, hd.trans hsda, hopen.trans ho⟩, by omega, by omega, by omega⟩
  · obtain ⟨hscl, -, ho⟩ := h01 (.inr rfl)
    obtain ⟨-, hl, hd⟩ := afterUop_sda (level := false) hlop
    exact ⟨by omega, fun _ => ⟨hl.mpr hscl, hd, hopen.trans ho⟩, by omega, by omega⟩
  · obtain ⟨-, hsda, ho⟩ := h2 rfl
    obtain ⟨hl, hd⟩ := afterUop_sclHi hlop
    exact ⟨by omega, by omega, fun _ => ⟨hl, hd.trans hsda, hopen.trans ho⟩, by omega⟩
  · obtain ⟨hscl, -, -⟩ := h3 rfl
    obtain ⟨hl, -, hd⟩ := afterUop_sda (level := true) hlop
    exact ⟨by omega, by omega, by omega, fun _ => ⟨hl.mpr hscl, hd, hopen⟩⟩

/-- The line op at index `u` of `B_OUT`, by its place in the bit it belongs to (R147). -/
theorem uop_out_cases {u : Nat} (hu : u < 36) (d : Byte) (l : Bool) :
    (u ≤ 31 ∧ u % 4 = 0 ∧ uop .out u d l = Lop.sclLo)
    ∨ (u ≤ 31 ∧ u % 4 = 1 ∧ uop .out u d l = sdaOp (d.getLsbD (7 - u / 4)))
    ∨ (u ≤ 31 ∧ u % 4 = 2 ∧ uop .out u d l = Lop.sclHi)
    ∨ (u ≤ 31 ∧ u % 4 = 3 ∧ uop .out u d l = Lop.sclLo)
    ∨ (u = 32 ∧ uop .out u d l = sdaOp true)
    ∨ (u = 33 ∧ uop .out u d l = Lop.sclHi)
    ∨ (u = 34 ∧ uop .out u d l = Lop.sdaRd)
    ∨ (u = 35 ∧ uop .out u d l = Lop.sclLo) := by
  rcases Nat.lt_or_ge 31 u with h | h
  · obtain rfl | rfl | rfl | rfl : u = 32 ∨ u = 33 ∨ u = 34 ∨ u = 35 := by omega
    all_goals simp [uop, sdaOp]
  · obtain hm | hm | hm | hm : u % 4 = 0 ∨ u % 4 = 1 ∨ u % 4 = 2 ∨ u % 4 = 3 := by omega
    all_goals simp [uop, h, hm]

theorem outLines_step {s : State} (hb : s.bop = .out) (hu : s.ustep.toNat < 36) (h : outLines s s.ustep.toNat) :
    outLines s.lineOp.afterUop (s.ustep.toNat + 1) := by
  have hopen := afterUop_startOpen_other (s := s) (by simp [hb]) (by simp [hb])
  have hlop : s.lop = uop .out s.ustep.toNat s.bdata s.blast := by rw [State.lop, hb]
  have hdata : s.lineOp.afterUop.bdata = s.bdata := lineOp_bdata (by simp [hb])
  have hcases := uop_out_cases hu s.bdata s.blast
  generalize s.ustep.toNat = u at *
  rw [← hlop] at hcases
  obtain ⟨ho, h0, hhigh, hlow, hbit, h33, h3435, -⟩ := h
  rcases hcases with ⟨hr, hm, hop⟩ | ⟨hr, hm, hop⟩ | ⟨hr, hm, hop⟩ | ⟨hr, hm, hop⟩ | ⟨rfl, hop⟩ | ⟨rfl, hop⟩ | ⟨rfl, hop⟩
    | ⟨rfl, hop⟩
  · obtain ⟨hl, -⟩ := afterUop_sclLo hop
    exact ⟨hopen.trans ho, by omega, by omega, fun _ _ _ => hl, by omega, by omega, by omega, by omega⟩
  · obtain ⟨-, hl, hd⟩ := afterUop_sda hop
    have hi : (u + 1) / 4 = u / 4 := by omega
    exact ⟨hopen.trans ho, by omega, by omega, fun _ _ _ => hl.mpr (hlow (by omega) (by omega) (by omega)),
      fun _ _ _ => by rw [hd, hdata, hi], by omega, by omega, by omega⟩
  · obtain ⟨hl, hd⟩ := afterUop_sclHi hop
    have hi : (u + 1) / 4 = u / 4 := by omega
    exact ⟨hopen.trans ho, by omega, fun _ _ _ => hl, by omega,
      fun _ _ _ => by rw [hd, hdata, hi]; exact hbit (by omega) hr (by omega), by omega, by omega, by omega⟩
  · obtain ⟨hl, -⟩ := afterUop_sclLo hop
    exact ⟨hopen.trans ho, by omega, by omega, fun _ _ _ => hl, by omega, by omega, by omega, by omega⟩
  · obtain ⟨-, hl, hd⟩ := afterUop_sda hop
    exact ⟨hopen.trans ho, by omega, by omega, by omega, by omega,
      fun _ => ⟨hl.mpr (hlow (by omega) (by omega) (by omega)), hd⟩, by omega, by omega⟩
  · obtain ⟨hl, hd⟩ := afterUop_sclHi hop
    exact ⟨hopen.trans ho, by omega, by omega, by omega, by omega, by omega, fun _ => ⟨hl, hd.trans (h33 rfl).2⟩, by omega⟩
  · obtain ⟨hl, -, hd⟩ := afterUop_sdaRd hop
    obtain ⟨hscl, hsda⟩ := h3435 (.inl rfl)
    exact ⟨hopen.trans ho, by omega, by omega, by omega, by omega, by omega, fun _ => ⟨hl.mpr hscl, hd.trans hsda⟩,
      by omega⟩
  · obtain ⟨hl, hd⟩ := afterUop_sclLo hop
    exact ⟨hopen.trans ho, by omega, by omega, by omega, by omega, by omega, by omega,
      fun _ => ⟨hl, hd.trans (h3435 (.inr rfl)).2⟩⟩

/-- The line op at index `u` of `B_IN`, by its place in the bit it belongs to (R150). -/
theorem uop_inp_cases {u : Nat} (hu : u < 28) (d : Byte) (l : Bool) :
    (u = 0 ∧ uop .inp u d l = sdaOp true)
    ∨ (1 ≤ u ∧ u ≤ 24 ∧ u % 3 = 1 ∧ uop .inp u d l = Lop.sclHi)
    ∨ (1 ≤ u ∧ u ≤ 24 ∧ u % 3 = 2 ∧ uop .inp u d l = Lop.sdaRd)
    ∨ (1 ≤ u ∧ u ≤ 24 ∧ u % 3 = 0 ∧ uop .inp u d l = Lop.sclLo)
    ∨ (u = 25 ∧ uop .inp u d l = sdaOp l)
    ∨ (u = 26 ∧ uop .inp u d l = Lop.sclHi)
    ∨ (u = 27 ∧ uop .inp u d l = Lop.sclLo) := by
  rcases Nat.eq_zero_or_pos u with rfl | h0
  · simp [uop, sdaOp]
  · rcases Nat.lt_or_ge 24 u with h | h
    · obtain rfl | rfl | rfl : u = 25 ∨ u = 26 ∨ u = 27 := by omega
      all_goals simp [uop]
    · have hne : u ≠ 0 := by omega
      obtain ⟨hm, hp⟩ | ⟨hm, hp⟩ | ⟨hm, hp⟩ :
          (u % 3 = 1 ∧ (u - 1) % 3 = 0) ∨ (u % 3 = 2 ∧ (u - 1) % 3 = 1) ∨ (u % 3 = 0 ∧ (u - 1) % 3 = 2) := by omega
      all_goals simp [uop, h, hm, hp, hne, Nat.one_le_iff_ne_zero]

theorem inLines_step {s : State} (hb : s.bop = .inp) (hu : s.ustep.toNat < 28) (h : inLines s s.ustep.toNat) :
    inLines s.lineOp.afterUop (s.ustep.toNat + 1) := by
  have hopen := afterUop_startOpen_other (s := s) (by simp [hb]) (by simp [hb])
  have hlop : s.lop = uop .inp s.ustep.toNat s.bdata s.blast := by rw [State.lop, hb]
  have hlast : s.lineOp.afterUop.blast = s.blast := lineOp_blast s
  have hcases := uop_inp_cases hu s.bdata s.blast
  generalize s.ustep.toNat = u at *
  rw [← hlop] at hcases
  obtain ⟨ho, h0, hsda, hlow, hhigh, h26, h27, -, hack⟩ := h
  rcases hcases with ⟨rfl, hop⟩ | ⟨h1, hr, hm, hop⟩ | ⟨h1, hr, hm, hop⟩ | ⟨h1, hr, hm, hop⟩ | ⟨rfl, hop⟩ | ⟨rfl, hop⟩
    | ⟨rfl, hop⟩
  · obtain ⟨-, hl, hd⟩ := afterUop_sda hop
    exact ⟨hopen.trans ho, by omega, fun _ _ => hd, fun _ _ _ => hl.mpr (h0 rfl), by omega, by omega, by omega, by omega,
      by omega⟩
  · obtain ⟨hl, hd⟩ := afterUop_sclHi hop
    exact ⟨hopen.trans ho, by omega, fun _ _ => hd.trans (hsda h1 (by omega)), by omega, fun _ _ _ => hl, by omega, by omega,
      by omega, by omega⟩
  · obtain ⟨hl, -, hd⟩ := afterUop_sdaRd hop
    exact ⟨hopen.trans ho, by omega, fun _ _ => hd.trans (hsda h1 (by omega)), by omega,
      fun _ _ _ => hl.mpr (hhigh h1 hr (by omega)), by omega, by omega, by omega, by omega⟩
  · obtain ⟨hl, hd⟩ := afterUop_sclLo hop
    exact ⟨hopen.trans ho, by omega, fun _ _ => hd.trans (hsda h1 (by omega)), fun _ _ _ => hl, by omega, by omega, by omega,
      by omega, by omega⟩
  · obtain ⟨-, hl, hd⟩ := afterUop_sda hop
    exact ⟨hopen.trans ho, by omega, by omega, by omega, by omega, fun _ => hl.mpr (hlow (by omega) (by omega) (by omega)),
      by omega, by omega, fun _ => by rw [hd, hlast]⟩
  · obtain ⟨hl, hd⟩ := afterUop_sclHi hop
    exact ⟨hopen.trans ho, by omega, by omega, by omega, by omega, by omega, fun _ => hl, by omega,
      fun _ => by rw [hd, hlast]; exact hack (by omega)⟩
  · obtain ⟨hl, hd⟩ := afterUop_sclLo hop
    exact ⟨hopen.trans ho, by omega, by omega, by omega, by omega, by omega, by omega, fun _ => hl,
      fun _ => by rw [hd, hlast]; exact hack (by omega)⟩

/-- A line op takes the lines from before its step to before the next one. -/
theorem LineInv.lineOp {s : State} {b : Bop} (h : LineInv s) (hq : s.seq.command = some b) (hb : s.bop = b)
    (hu : s.ustep.toNat < s.bop.len) : LineInv s.lineOp.afterUop := by
  have hstep := afterUop_ustep_toNat hu
  have hseq : s.lineOp.afterUop.seq = s.seq := lineOp_seq s
  unfold LineInv at h ⊢
  rw [hseq, hstep]
  rw [hb] at hu
  rw [hq] at h ⊢
  cases b with
  | init =>
    obtain ⟨hscl, hsda, ho⟩ := h
    obtain ⟨h1, h2⟩ := init_step hb ⟨hscl, hsda⟩
    exact ⟨h1, h2, (afterUop_startOpen_other (by simp [hb]) (by simp [hb])).trans ho⟩
  | start => exact startLines_step hb hu h
  | stop => exact stopLines_step hb hu h
  | out => exact outLines_step hb hu h
  | inp => exact inLines_step hb hu h

end Sys2Proof.Machine
end

section
/-! PROOFS. Every move of the engine and every request of the host keeps the invariant. -/

namespace Sys2Proof.Machine

/-! ### A resting block -/

/-- With the engine at rest the descriptor is free: the counters and results speak of running transactions only. -/
theorem DescriptorInv.of_rest {s : State} (hb : s.busy = false) (hq : s.seq.engineIdle = true) : DescriptorInv s := by
  rcases (Seq.engineIdle_iff _).mp hq with h | h <;> constructor <;> simp [hb, h, Seq.readPhase]

/-- Both lines released and no transaction: the lines of a resting block (R153, R220). -/
theorem LineInv.of_rest {s : State} (hq : s.seq.engineIdle = true) (hscl : s.sclHigh) (hsda : s.sdaDir = .inp)
    (ho : s.seq ≠ .fault → s.startOpen = false) : LineInv s := by
  unfold LineInv
  rw [Seq.command_of_engineIdle hq]
  exact ⟨hscl, hsda, ho⟩

theorem inv_atReset (p : Params) (e n : Nat) (l : List CycleIn) (hp : p.wf = true) : Inv (State.atReset p e n l) where
  buffers := ⟨hp, List.Pairwise.nil, List.Pairwise.nil, nofun, nofun⟩
  control := by constructor <;> simp [State.atReset, Seq.command]
  descriptor := .of_rest rfl rfl
  lines := .of_rest rfl (.inl rfl) rfl fun _ => rfl

/-- What the descriptor's part of the invariant does not read: the lines, the step, the timers, the flags. -/
theorem DescriptorInv.congr {s t : State} (h : DescriptorInv s)
    (ht : t = { s with
      sclDir := t.sclDir, sclVal := t.sclVal, sdaDir := t.sdaDir, bdata := t.bdata, ack := t.ack, ustep := t.ustep
      dly := t.dly, wcnt := t.wcnt, rderrSeen := t.rderrSeen, startOpen := t.startOpen
      hRdata := t.hRdata, ins := t.ins, cycle := t.cycle })
    (hb : t.bdata = s.bdata ∨ s.seq = .rData) : DescriptorInv t := by
  rcases hb with hb | hb
  · rw [ht, hb]
    exact ⟨h.legal, h.widxInside, h.ridxInside, h.reading, h.triesInside, h.received, h.notReceived, h.allReceived,
      h.lastByte, h.sentWAddr, h.sentWData, h.sentRAddr, h.noFailure⟩
  · rw [ht]
    exact ⟨h.legal, h.widxInside, h.ridxInside, h.reading, h.triesInside, h.received, h.notReceived, h.allReceived,
      h.lastByte, by simp [hb], by simp [hb], by simp [hb], h.noFailure⟩

/-- The invariant does not read `h_rdata` or the inputs, and lets the timers run down. -/
theorem Inv.timers {s t : State} (h : Inv s)
    (ht : t = { s with dly := t.dly, wcnt := t.wcnt, hRdata := t.hRdata, ins := t.ins, cycle := t.cycle })
    (hd : t.dly.toNat ≤ s.dly.toNat) (hw : t.wcnt ≤ s.wcnt) : Inv t where
  buffers := by rw [ht]; exact h.buffers.congr rfl rfl rfl
  control := by
    rw [ht]
    refine ⟨h.control.busyIff, h.control.faultIff, h.control.doneIdle, h.control.faultDone, h.control.okDone,
      h.control.command, fun hc => ?_, hd.trans h.control.dlyBound, lt_of_le_of_lt hw h.control.wcntBound⟩
    obtain ⟨h0, hu⟩ := h.control.noCommand hc
    rw [h0] at hd
    exact ⟨BitVec.eq_of_toNat_eq (Nat.le_zero.mp hd), hu⟩
  descriptor := h.descriptor.congr (by rw [ht]) (.inl (by rw [ht]))
  lines := by rw [ht]; exact h.lines

/-! ### What the invariant says of a running transaction -/

/-- `first` fits the index register (R175). -/
theorem first_toNat (s : State) : (BitVec.ofNat 9 s.first).toNat = s.first := by
  unfold State.first
  split_ifs <;> rfl

section
variable {s : State} (h : Inv s)
include h

theorem Inv.busy_iff : s.busy = true ↔ s.seq.engineIdle = false := by
  rw [h.control.busyIff, ← Bool.not_eq_true, Seq.engineIdle_iff, not_or]

theorem Inv.not_busy (hq : s.seq.engineIdle = true) : s.busy = false := by
  rw [← Bool.not_eq_true, h.busy_iff, hq]
  decide

/-- Where a byte command has no step left, `ustep` is at its end. -/
theorem Inv.ustep_at_end {b : Bop} (hq : s.seq.command = some b) (hu : ¬ s.ustep.toNat < s.bop.len) :
    s.ustep.toNat = b.len := by
  obtain ⟨hb, hle⟩ := h.control.command b hq
  rw [hb] at hu
  omega

theorem Inv.running (hq : s.seq.engineIdle = false) (hd : s.dly = 0) : Running s := by
  have hb := h.busy_iff.mpr hq
  have hdone : s.done = false := by
    rw [← Bool.not_eq_true]
    intro hx
    rw [h.control.doneIdle hx] at hb
    exact Bool.noConfusion hb
  refine ⟨h.buffers, hb, hdone, ?_, ?_, hd, h.control.wcntBound, h.descriptor.legal hb, h.descriptor.triesInside hb⟩
  · rw [← Bool.not_eq_true]
    intro hx
    simpa [hdone] using (h.control.okDone hx).1
  · rw [← Bool.not_eq_true, h.control.faultIff]
    exact (h.control.busyIff.mp hb).2

theorem Inv.rxcnt_zero (hq : s.seq.engineIdle = false) (h1 : s.seq ≠ .rData) (h2 : s.seq ≠ .rStop) : s.rxcnt = 0 :=
  h.descriptor.notReceived (h.busy_iff.mpr hq) h1 h2

theorem Inv.no_failure (hq : s.seq.engineIdle = false) (h1 : s.seq ≠ .abStop) : s.failCode = .none :=
  h.descriptor.noFailure (h.busy_iff.mpr hq) h1

/-! The lines where a byte command ends (R153). -/

theorem Inv.lines_after_init (hq : s.seq.command = some .init) :
    s.sclHigh ∧ s.sdaDir = .inp ∧ s.startOpen = false := by
  simpa only [LineInv, hq] using h.lines

theorem Inv.lines_after_start (hq : s.seq.command = some .start) (hu : ¬ s.ustep.toNat < s.bop.len) :
    s.sclHigh ∧ s.sdaDir = .out ∧ s.startOpen = true := by
  have hl := h.lines
  rw [LineInv, hq, h.ustep_at_end hq hu] at hl
  obtain ⟨-, -, -, hend⟩ := hl
  exact hend rfl

theorem Inv.lines_after_stop (hq : s.seq.command = some .stop) (hu : ¬ s.ustep.toNat < s.bop.len) :
    s.sclHigh ∧ s.sdaDir = .inp ∧ s.startOpen = false := by
  have hl := h.lines
  rw [LineInv, hq, h.ustep_at_end hq hu] at hl
  obtain ⟨-, -, -, hend⟩ := hl
  exact hend rfl

theorem Inv.lines_after_out (hq : s.seq.command = some .out) (hu : ¬ s.ustep.toNat < s.bop.len) :
    s.sclLow ∧ s.sdaDir = .inp ∧ s.startOpen = true := by
  have hl := h.lines
  rw [LineInv, hq, h.ustep_at_end hq hu] at hl
  obtain ⟨ho, -, -, -, -, -, -, hend⟩ := hl
  obtain ⟨hscl, hsda⟩ := hend rfl
  exact ⟨hscl, hsda, ho⟩

theorem Inv.lines_after_inp (hq : s.seq.command = some .inp) (hu : ¬ s.ustep.toNat < s.bop.len) :
    s.sclLow ∧ s.sdaDir = levelDir s.blast ∧ s.startOpen = true := by
  have hl := h.lines
  rw [LineInv, hq, h.ustep_at_end hq hu] at hl
  obtain ⟨ho, -, -, -, -, -, -, hend, hack⟩ := hl
  exact ⟨hend rfl, hack (by decide), ho⟩

theorem Inv.lines_resting (hq : s.seq.engineIdle = true) :
    s.sclHigh ∧ s.sdaDir = .inp ∧ (s.seq ≠ .fault → s.startOpen = false) := by
  have hl := h.lines
  rwa [LineInv, Seq.command_of_engineIdle hq] at hl

theorem Inv.lines_waiting (hq : s.seq = .preWait ∨ s.seq = .retryWait) :
    s.sclHigh ∧ s.sdaDir = .inp ∧ s.startOpen = false := by
  have hl := h.lines
  rcases hq with hq | hq <;> simpa [LineInv, hq, Seq.command] using hl

/-! The buffer lengths of a legal descriptor (R172). -/

theorem Inv.lengths (hq : s.seq.engineIdle = false) :
    s.wlen.toNat ≤ s.par.txDepth ∧ s.rlen.toNat ≤ s.par.rxDepth ∧ s.par.txDepth ≤ 256 ∧ s.par.rxDepth ≤ 256 := by
  have hl := h.descriptor.legal (h.busy_iff.mpr hq)
  have hp := h.buffers.par
  simp only [State.badDescriptor, Bool.or_eq_false_iff, decide_eq_false_iff_not] at hl
  simp only [Params.wf, Bool.and_eq_true, decide_eq_true_eq] at hp
  omega

/-- Inside a legal descriptor the write index does not wrap (R26). -/
theorem Inv.widx_succ (hq : s.seq = .wData) : (s.widx + 1).toNat = s.widx.toNat + 1 := by
  have hlen := h.lengths (by simp [hq, Seq.engineIdle])
  have hw := h.descriptor.widxInside hq
  bv_omega

/-- Inside a legal descriptor the read index does not wrap (R26). -/
theorem Inv.ridx_succ (hq : s.seq = .rData) : (s.ridx + 1).toNat = s.ridx.toNat + 1 := by
  have hlen := h.lengths (by simp [hq, Seq.engineIdle])
  have hr := h.descriptor.ridxInside hq
  bv_omega

/-- While retries are left the count of tries does not wrap (R26). -/
theorem Inv.tries_succ (hq : s.seq.engineIdle = false) (ht : s.tries ≠ s.retry) :
    (s.tries + 1).toNat = s.tries.toNat + 1 ∧ s.tries.toNat + 1 ≤ s.retry.toNat := by
  have hle := h.descriptor.triesInside (h.busy_iff.mpr hq)
  bv_omega

end

/-! ### The moves of the engine -/

theorem tail_toNat_le (s : State) : s.tail.toNat ≤ 131070 := by
  unfold State.tail
  split_ifs
  · decide
  · have := s.qdelay.isLt
    bv_omega

/-- The delay a line op loads is a tail or none (R122). -/
theorem lineOp_dly_le (s : State) : s.lineOp.dly.toNat ≤ 131070 := by
  have ht := tail_toNat_le s
  unfold State.lineOp
  split_ifs
  iterate 5 exact ht
  exact Nat.zero_le _

/-- A line op keeps the invariant (R142). -/
theorem Inv.lineOp {s : State} (h : Inv s) (hq : s.seq.command.isSome = true) (hu : s.ustep.toNat < s.bop.len) :
    Inv s.lineOp.afterUop := by
  obtain ⟨b, hb⟩ := Option.isSome_iff_exists.mp hq
  obtain ⟨hbop, -⟩ := h.control.command b hb
  obtain ⟨_, _, _, _, _, _, _, hf⟩ := lineOp_frame s
  refine ⟨h.buffers.congr (lineOp_par s) (lineOp_txbuf s) (lineOp_rxbuf s), ?_, ?_, h.lines.lineOp hb hbop hu⟩
  · have hstep := afterUop_ustep_toNat hu
    refine ⟨by simpa using h.control.busyIff, by simpa using h.control.faultIff, by simpa using h.control.doneIdle,
      by simpa using h.control.faultDone, by simpa using h.control.okDone, fun c hc => ?_, fun hc => ?_,
      lineOp_dly_le s, by simpa using h.control.wcntBound⟩
    · have hc' : s.seq.command = some c := by simpa using hc
      obtain ⟨hbc, -⟩ := h.control.command c hc'
      rw [hbc] at hu
      exact ⟨by simpa using hbc, by omega⟩
    · have hc' : s.seq.command = none := by simpa using hc
      rw [hc'] at hb
      cases hb
  · refine h.descriptor.congr (by rw [hf]; rfl) ?_
    by_cases hin : s.bop = .inp
    · right
      rw [hbop] at hin
      rw [hin] at hb
      exact Seq.eq_rData_of_command hb
    · exact .inl (lineOp_bdata hin)

/-- The fatal abort leaves a resting block with both lines released (R220). -/
theorem Inv.fatalAbort {s : State} (h : Inv s) : Inv s.fatalAbort where
  buffers := h.buffers.congr rfl rfl rfl
  control := by constructor <;> simp [Seq.command]
  descriptor := .of_rest rfl rfl
  lines := .of_rest rfl (.inl rfl) rfl (absurd rfl)

/-- The end of a transaction, after its last STOP (R181). -/
theorem Inv.finish {s : State} (h : Inv s) (hq : s.seq.command = some .stop) (hd : s.dly = 0)
    (hu : ¬ s.ustep.toNat < s.bop.len) {k : Bool} {c : FailCode} (i : BitVec 9) (d : Byte) (hk : k = true → c = .none) :
    Inv ((s.raiseFail c i d).finish k) where
  buffers := h.buffers.congr rfl rfl rfl
  control := by
    have hr := h.running (Seq.engineIdle_of_command (by simp [hq])) hd
    constructor
    case okDone => simpa using hk
    all_goals simp [hr.fault, hr.dly, hr.wcnt, Seq.command]
  descriptor := .of_rest rfl rfl
  lines := by
    obtain ⟨hscl, hsda, ho⟩ := h.lines_after_stop hq hu
    exact .of_rest rfl hscl hsda fun _ => ho

/-- The byte received goes inside `RXBUF` (R76, R187). -/
theorem Inv.rxbuf_write {s : State} (h : Inv s) (hq : s.seq = .rData) {x r : BitVec 9} :
    BufferInv { s with rxbuf := Memory.write s.rxbuf s.ridx.toNat s.bdata, rxcnt := x, ridx := r } where
  par := h.buffers.par
  txForm := h.buffers.txForm
  rxForm := Memory.write_wf _ _ _ h.buffers.rxForm
  txInside := h.buffers.txInside
  rxInside := by
    obtain ⟨-, hlen, -⟩ := h.lengths (by rw [hq]; rfl)
    have hr := h.descriptor.ridxInside hq
    exact Memory.write_inside _ _ _ _ h.buffers.rxInside (by omega : s.ridx.toNat < s.par.rxDepth)

/-- A completion step may count bytes and tries and record results before it enters the next state. -/
theorem Inv.enter {s t : State} {q : Seq} {n : BitVec 9} (h : Inv s) (hi : s.seq.engineIdle = false) (hd : s.dly = 0)
    (ht : t = { s with
      widx := t.widx, ridx := t.ridx, tries := t.tries, nakSeen := t.nakSeen, failCode := t.failCode
      failIndex := t.failIndex, failByte := t.failByte, rxcnt := t.rxcnt, rxbuf := t.rxbuf })
    (hb : BufferInv t) (htr : t.tries.toNat ≤ s.retry.toNat) (hp : EntryPoint t q n) : Inv (t.entered q n) := by
  have hr := h.running hi hd
  refine Running.inv_entered ?_ hp
  rw [ht] at hb ⊢
  exact ⟨hb, hr.busy, hr.done, hr.ok, hr.fault, hr.dly, hr.wcnt, hr.legal, htr⟩

/-- The same, where neither `tries` nor `RXBUF` is written. -/
theorem Inv.enter_noted {s t : State} {q : Seq} {n : BitVec 9} (h : Inv s) (hi : s.seq.engineIdle = false)
    (hd : s.dly = 0)
    (ht : t = { s with
      widx := t.widx, ridx := t.ridx, nakSeen := t.nakSeen, failCode := t.failCode, failIndex := t.failIndex
      failByte := t.failByte, rxcnt := t.rxcnt })
    (hp : EntryPoint t q n) : Inv (t.entered q n) :=
  h.enter hi hd (by rw [ht]) (h.buffers.congr (by rw [ht]) (by rw [ht]) (by rw [ht]))
    (by rw [ht]; exact (h.running hi hd).tries) hp

/-- In these states no byte has been received and no failure recorded. -/
def Seq.fresh : Seq → Bool
  | .idle | .fault | .rData | .rStop | .abStop => false
  | _ => true

theorem Seq.engineIdle_of_fresh {q : Seq} (h : q.fresh = true) : q.engineIdle = false := by
  revert h
  cases q <;> decide

/-- What the invariant says there. -/
theorem Inv.fresh {s : State} (h : Inv s) (hq : s.seq.fresh = true) :
    s.seq.engineIdle = false ∧ s.rxcnt = 0 ∧ s.failCode = .none := by
  have hi := Seq.engineIdle_of_fresh hq
  refine ⟨hi, h.rxcnt_zero hi ?_ ?_, h.no_failure hi ?_⟩ <;> rintro hs <;> rw [hs] at hq <;> cases hq

/-- Entering a state before anything is received. -/
theorem EntryPoint.of_fresh {s : State} {q : Seq} {n : BitVec 9} (hq : q.fresh = true) (hx : s.rxcnt = 0)
    (hf : s.failCode = .none) (hp : q = .wData → s.widx = n ∧ s.first ≤ n.toNat ∧ n.toNat < s.wlen.toNat)
    (hr : q.readPhase = true → 1 ≤ s.rlen.toNat) (hl : entryLines s q) : EntryPoint s q n where
  running := Seq.engineIdle_of_fresh hq
  payload := hp
  receive := by rintro rfl; cases hq
  reading := hr
  notReceived := fun _ _ => hx
  allReceived := by rintro rfl; cases hq
  noFailure := fun _ => hf
  lines := hl

/-- The STOP after a failure in the write phase (R188). -/
theorem EntryPoint.abStop {s : State} {n : BitVec 9} (hx : s.rxcnt = 0)
    (hl : s.sclLow ∧ s.sdaDir = .inp ∧ s.startOpen = true) : EntryPoint s .abStop n where
  running := rfl
  payload := nofun
  receive := nofun
  reading := nofun
  notReceived := fun _ _ => hx
  allReceived := nofun
  noFailure := absurd rfl
  lines := hl

/-- A byte to receive (R184, R187). -/
theorem EntryPoint.rData {s : State} {n : BitVec 9} (hn : s.ridx = n) (hx : s.rxcnt = n) (hlt : n.toNat < s.rlen.toNat)
    (hf : s.failCode = .none) (hl : s.startOpen = true ∧ s.sclLow) : EntryPoint s .rData n where
  running := rfl
  payload := nofun
  receive := fun _ => ⟨hn, hx, hlt⟩
  reading := fun _ => by omega
  notReceived := absurd rfl
  allReceived := nofun
  noFailure := fun _ => hf
  lines := hl

/-- The STOP after the last byte received (R187). -/
theorem EntryPoint.rStop {s : State} {n : BitVec 9} (hx : s.rxcnt.toNat = s.rlen.toNat) (hr : 1 ≤ s.rlen.toNat)
    (hf : s.failCode = .none) (hl : s.sclLow ∧ s.sdaDir = .inp ∧ s.startOpen = true) : EntryPoint s .rStop n where
  running := rfl
  payload := nofun
  receive := nofun
  reading := fun _ => hr
  notReceived := fun _ h => absurd rfl h
  allReceived := fun _ => hx
  noFailure := fun _ => hf
  lines := hl

/-- The engine keeps the invariant, whatever move it makes. -/
theorem EngineMove.inv {s e : State} (hm : EngineMove s e) (h : Inv s) : Inv e := by
  have fresh {q : Seq} (hs : s.seq = q) (hq : q.fresh = true) := h.fresh (hs ▸ hq)
  have command {q : Seq} {b : Bop} (hs : s.seq = q) (hq : q.command = some b) : s.seq.command = some b := hs ▸ hq
  have rlen {q : Seq} (hs : s.seq = q) (hq : q.readPhase = true) : 1 ≤ s.rlen.toNat := h.descriptor.reading (hs ▸ hq)
  cases hm with
  | rest => exact h
  | waitCount => exact h.timers rfl le_rfl (Nat.sub_le _ _)
  | delay _ hd => exact h.timers rfl (by bv_omega) le_rfl
  | abort => exact h.fatalAbort
  | lineOp hq _ hu => exact h.lineOp hq hu
  | waitEnd hq =>
    have hd : s.dly = 0 := (h.control.noCommand (by rcases hq with hq | hq <;> rw [hq] <;> rfl)).1
    obtain ⟨hi, hx, hf⟩ := h.fresh (by rcases hq with hq | hq <;> rw [hq] <;> rfl)
    have hr : 1 ≤ s.rlen.toNat := by rcases hq with hq | hq <;> exact rlen hq rfl
    exact h.enter_noted hi hd rfl (.of_fresh rfl hx hf nofun (fun _ => hr) (h.lines_waiting hq))
  | initDone hq hd hu =>
    obtain ⟨hi, hx, hf⟩ := fresh hq rfl
    exact h.enter_noted hi hd rfl (.of_fresh rfl hx hf nofun nofun (h.lines_after_init (command hq rfl)))
  | wStartDone hq hd hu =>
    obtain ⟨hi, hx, hf⟩ := fresh hq rfl
    obtain ⟨hscl, hsda, ho⟩ := h.lines_after_start (command hq rfl) hu
    exact h.enter_noted hi hd rfl (.of_fresh rfl hx hf nofun nofun ⟨ho, nofun, fun _ => ⟨hscl, hsda⟩⟩)
  | wAddrNak hq hd hu =>
    obtain ⟨hi, hx, -⟩ := fresh hq rfl
    exact h.enter_noted hi hd rfl (.abStop hx (h.lines_after_out (command hq rfl) hu))
  | wAddrData hq hd hu _ hl =>
    obtain ⟨hi, hx, hf⟩ := fresh hq rfl
    obtain ⟨hscl, hsda, ho⟩ := h.lines_after_out (command hq rfl) hu
    exact h.enter_noted hi hd rfl
      (.of_fresh rfl hx hf (fun _ => ⟨rfl, (first_toNat s).ge, (first_toNat s).trans_lt hl⟩) nofun
        ⟨ho, fun _ => ⟨hscl, hsda⟩, absurd rfl⟩)
  | wAddrStop hq hd hu =>
    obtain ⟨hi, hx, hf⟩ := fresh hq rfl
    exact h.enter_noted hi hd rfl (.of_fresh rfl hx hf nofun nofun (h.lines_after_out (command hq rfl) hu))
  | wDataNak hq hd hu =>
    obtain ⟨hi, hx, -⟩ := fresh hq rfl
    exact h.enter_noted hi hd rfl (.abStop hx (h.lines_after_out (command hq rfl) hu))
  | wDataNext hq hd hu _ hl =>
    obtain ⟨hi, hx, hf⟩ := fresh hq rfl
    obtain ⟨hscl, hsda, ho⟩ := h.lines_after_out (command hq rfl) hu
    have hge := (h.descriptor.widxInside hq).1
    have hw := h.widx_succ hq
    exact h.enter_noted hi hd rfl
      (.of_fresh rfl hx hf (fun _ => ⟨rfl, hw ▸ hge.trans (Nat.le_succ _), hw ▸ hl⟩) nofun
        ⟨ho, fun _ => ⟨hscl, hsda⟩, absurd rfl⟩)
  | wDataStop hq hd hu =>
    obtain ⟨hi, hx, hf⟩ := fresh hq rfl
    exact h.enter_noted hi hd rfl (.of_fresh rfl hx hf nofun nofun (h.lines_after_out (command hq rfl) hu))
  | wStopEnd hq hd hu =>
    obtain ⟨-, -, hf⟩ := fresh hq rfl
    exact h.finish (command hq rfl) hd hu _ _ fun _ => hf
  | wStopRead hq hd hu hr =>
    obtain ⟨hi, hx, hf⟩ := fresh hq rfl
    exact h.enter_noted hi hd rfl
      (.of_fresh rfl hx hf nofun (fun _ => by bv_omega) (h.lines_after_stop (command hq rfl) hu))
  | rStartDone hq hd hu =>
    obtain ⟨hi, hx, hf⟩ := fresh hq rfl
    obtain ⟨hscl, hsda, ho⟩ := h.lines_after_start (command hq rfl) hu
    exact h.enter_noted hi hd rfl
      (.of_fresh rfl hx hf nofun (fun _ => rlen hq rfl) ⟨ho, nofun, fun _ => ⟨hscl, hsda⟩⟩)
  | rAddrAck hq hd hu =>
    obtain ⟨hi, hx, hf⟩ := fresh hq rfl
    obtain ⟨hscl, -, ho⟩ := h.lines_after_out (command hq rfl) hu
    exact h.enter_noted hi hd rfl (.rData rfl hx (rlen hq rfl) hf ⟨ho, hscl⟩)
  | rAddrNak hq hd hu =>
    obtain ⟨hi, hx, hf⟩ := fresh hq rfl
    exact h.enter_noted hi hd rfl
      (.of_fresh rfl hx hf nofun (fun _ => rlen hq rfl) (h.lines_after_out (command hq rfl) hu))
  | retriesOut hq hd hu => exact h.finish (command hq rfl) hd hu _ _ nofun
  | retry hq hd hu ht =>
    obtain ⟨hi, hx, hf⟩ := fresh hq rfl
    obtain ⟨hsucc, hle⟩ := h.tries_succ hi ht
    exact h.enter hi hd rfl (h.buffers.congr rfl rfl rfl) (hsucc.trans_le hle)
      (.of_fresh rfl hx hf nofun (fun _ => rlen hq rfl) (h.lines_after_stop (command hq rfl) hu))
  | rDataNext hq hd hu hl =>
    have hi : s.seq.engineIdle = false := by rw [hq]; rfl
    obtain ⟨hscl, -, ho⟩ := h.lines_after_inp (command hq rfl) hu
    exact h.enter hi hd rfl (h.rxbuf_write hq) (h.running hi hd).tries
      (.rData rfl rfl (h.ridx_succ hq ▸ hl) (h.no_failure hi (by simp [hq])) ⟨ho, hscl⟩)
  | rDataLast hq hd hu hl =>
    have hi : s.seq.engineIdle = false := by rw [hq]; rfl
    have hlast : s.ridx.toNat + 1 = s.rlen.toNat := by
      have := h.descriptor.ridxInside hq
      omega
    obtain ⟨hscl, hsda, ho⟩ := h.lines_after_inp (command hq rfl) hu
    rw [h.descriptor.lastByte hq, decide_eq_true hlast] at hsda
    exact h.enter hi hd rfl (h.rxbuf_write hq) (h.running hi hd).tries
      (.rStop ((h.ridx_succ hq).trans hlast) (rlen hq rfl) (h.no_failure hi (by simp [hq])) ⟨hscl, hsda, ho⟩)
  | rStopEnd hq hd hu =>
    exact h.finish (command hq rfl) hd hu _ _ fun _ => h.no_failure (by rw [hq]; rfl) (by simp [hq])
  | abStopEnd hq hd hu => exact h.finish (command hq rfl) hd hu s.failIndex s.failByte nofun

/-! ### The requests of the host -/

/-- A host write reaches the descriptor and one byte of `TXBUF`, inside it, only (R67). -/
theorem hostStore_frame (s : State) (idx : HostIdx) (v : Reg) : ∃ c a w r y x q m,
    s.hostStore idx v = { s with
      cfg := c, addr := a, wlen := w, rlen := r, retry := y, wait := x, qdelay := q, txbuf := m }
    ∧ (m = s.txbuf
      ∨ ∃ i < s.par.txDepth, idx.toNat = 0x100 + i ∧ m = Memory.write s.txbuf i (v.setWidth 8)) := by
  generalize ht : s.hostStore idx v = t
  unfold State.hostStore at ht
  dsimp only at ht
  repeat' split at ht
  all_goals subst ht
  iterate 7 exact ⟨_, _, _, _, _, _, _, _, rfl, .inl rfl⟩
  next hr => exact ⟨_, _, _, _, _, _, _, _, rfl, .inr ⟨idx.toNat - 0x100, by omega, by omega, rfl⟩⟩
  exact ⟨_, _, _, _, _, _, _, _, rfl, .inl rfl⟩

theorem hostStore_txbuf (s : State) (idx : HostIdx) (v : Reg) :
    (s.hostStore idx v).txbuf = s.txbuf
    ∨ ∃ i < s.par.txDepth, idx.toNat = 0x100 + i
        ∧ (s.hostStore idx v).txbuf = Memory.write s.txbuf i (v.setWidth 8) := by
  obtain ⟨_, _, _, _, _, _, _, _, hs, hm⟩ := hostStore_frame s idx v
  rw [hs]
  exact hm

/-- A write by the host keeps the buffers canonical and inside their depths. -/
theorem BufferInv.hostStore {s : State} (h : BufferInv s) (idx : HostIdx) (v : Reg) : BufferInv (s.hostStore idx v) := by
  rcases hostStore_txbuf s idx v with ht | ⟨i, hi, -, ht⟩
  · exact h.congr (s.hostStore_par idx v) ht (s.hostStore_rxbuf idx v)
  · constructor
    · simpa using h.par
    · rw [ht]
      exact Memory.write_wf _ _ _ h.txForm
    · simpa using h.rxForm
    · rw [ht, State.hostStore_par]
      exact Memory.write_inside _ _ _ _ h.txInside hi
    · simpa using h.rxInside

/-- A write by the host to an idle or faulted block keeps the invariant. -/
theorem Inv.hostStore {s : State} (h : Inv s) (hq : s.seq.engineIdle = true) (idx : HostIdx) (v : Reg) :
    Inv (s.hostStore idx v) where
  buffers := h.buffers.hostStore idx v
  control := by
    obtain ⟨_, _, _, _, _, _, _, _, hs, -⟩ := hostStore_frame s idx v
    rw [hs]
    exact ⟨h.control.busyIff, h.control.faultIff, h.control.doneIdle, h.control.faultDone, h.control.okDone,
      h.control.command, h.control.noCommand, h.control.dlyBound, h.control.wcntBound⟩
  descriptor := .of_rest (by simpa using h.not_busy hq) (by simpa using hq)
  lines := by
    obtain ⟨hscl, hsda, ho⟩ := h.lines_resting hq
    obtain ⟨_, _, _, _, _, _, _, _, hs, -⟩ := hostStore_frame s idx v
    rw [hs]
    exact .of_rest hq hscl hsda ho

/-- The state an accepted GO leads to is `S_INIT`, entered (R172, R173). -/
theorem Inv.goAccepted {s : State} (h : Inv s) (hq : s.seq = .idle) (hf : s.fault = false)
    (hd : s.badDescriptor = false) :
    Inv (({ s.noReadData.clearResults with busy := true, a7 := s.slaveAddr } : State).entered .init 0) := by
  obtain ⟨hscl, hsda, ho⟩ := h.lines_resting (by rw [hq]; rfl)
  obtain ⟨hdly, -⟩ := h.control.noCommand (by rw [hq]; rfl)
  exact Running.inv_entered ⟨h.buffers.congr rfl rfl rfl, rfl, rfl, rfl, hf, hdly, h.control.wcntBound, hd, Nat.zero_le _⟩
    (.of_fresh rfl rfl rfl nofun nofun ⟨hscl, hsda, ho (by simp [hq])⟩)

/-- A rejected GO leaves an idle block with the failure recorded (R172). -/
theorem Inv.goRejected {s : State} (h : Inv s) (hq : s.seq = .idle) (hf : s.fault = false) :
    Inv { s.noReadData.clearResults with failCode := .badArg, done := true } where
  buffers := h.buffers.congr rfl rfl rfl
  control := by
    have hb := h.not_busy (by rw [hq]; rfl)
    obtain ⟨hdly, hu⟩ := h.control.noCommand (by rw [hq]; rfl)
    constructor <;> simp [hb, hq, hf, hdly, hu, h.control.wcntBound, Seq.command]
  descriptor := .of_rest (h.not_busy (by rw [hq]; rfl)) (by simp [hq, Seq.engineIdle])
  lines := by
    have hi : s.seq.engineIdle = true := by rw [hq]; rfl
    obtain ⟨hscl, hsda, ho⟩ := h.lines_resting hi
    exact .of_rest hi hscl hsda ho

/-- Where the engine rests, the host's request keeps the invariant. -/
theorem HostMove.inv {s r : State} (hm : HostMove s r) (h : Inv s) (hq : s.seq.engineIdle = true) : Inv r := by
  have hread (x : Reg) : Inv { s with hRdata := x } := h.timers rfl le_rfl le_rfl
  cases hm with
  | none | read | ignored | cmdNothing | goIgnored => exact hread _
  | store => exact (hread 0).hostStore hq _ _
  | goRejected _ _ _ _ _ hi hf => exact h.goRejected hi hf
  | goAccepted _ _ _ _ _ hi hf hd => exact h.goAccepted hi hf hd

/-! ### The step -/

/-- A cycle without reset, as a request of the host and a move of the engine (R246). -/
theorem step_moves {s t : State} (hr : s.cur.rst = false) (hs : step s = .next t) :
    ∃ r e, HostMove s r ∧ EngineMove s e ∧ t = (joinWrites s r e).closeCycle := by
  rcases step_cases hs with ⟨hrst, -⟩ | ⟨-, r, e, -, hm, -, he, ht⟩
  · rw [hr] at hrst
    cases hrst
  · exact ⟨r, e, hm, he, ht⟩

/-- With the engine at rest, a cycle without reset is the host's request with the clock moved (R246). -/
theorem step_rest {s t : State} (hr : s.cur.rst = false) (hq : s.seq.engineIdle = true) (hs : step s = .next t) :
    ∃ r, HostMove s r ∧ t = r.closeCycle := by
  obtain ⟨r, e, hm, -, rfl⟩ := step_moves hr hs
  exact ⟨r, hm, by rw [joinWrites_rest hq]⟩

/-- While the engine runs, a cycle without reset is its move, with the host's fields and the clock beside it (R245). -/
theorem step_running {s t : State} (hr : s.cur.rst = false) (hq : s.seq.engineIdle = false) (hs : step s = .next t) :
    ∃ r e, HostMove s r ∧ EngineMove s e ∧
      t = ({ e with
        cfg := r.cfg, addr := r.addr, wlen := r.wlen, rlen := r.rlen, retry := r.retry, wait := r.wait
        qdelay := r.qdelay, txbuf := r.txbuf, hRdata := r.hRdata } : State).closeCycle := by
  obtain ⟨r, e, hm, he, rfl⟩ := step_moves hr hs
  exact ⟨r, e, hm, he, by rw [joinWrites, if_neg (by simp [hq])]⟩

/-- While a transaction runs, a cycle without reset is the engine's move with the read data and the clock moved (R65). -/
theorem step_busy {s t : State} (hr : s.cur.rst = false) (hb : s.busy = true) (hq : s.seq.engineIdle = false)
    (hs : step s = .next t) : ∃ e x, EngineMove s e ∧ t = ({ e with hRdata := x } : State).closeCycle := by
  obtain ⟨r, e, hm, he, rfl⟩ := step_running hr hq hs
  obtain ⟨x, rfl⟩ := hm.of_busy hb
  obtain ⟨hcfg, haddr, hwlen, hrlen, hretry, hwait, hqdelay, htx, -⟩ := he.keeps_host
  refine ⟨e, x, he, ?_⟩
  simp only [← hcfg, ← haddr, ← hwlen, ← hrlen, ← hretry, ← hwait, ← hqdelay, ← htx]

/-- Every step keeps the invariant. -/
theorem Inv.step {s t : State} (h : Inv s) (hs : step s = .next t) : Inv t := by
  by_cases hr : s.cur.rst = true
  · have ht : t = s.restart := by simpa [Machine.step, hr, eq_comm] using hs
    rw [ht]
    exact inv_atReset _ _ _ _ h.buffers.par
  · have hr' : s.cur.rst = false := by simpa using hr
    by_cases hq : s.seq.engineIdle = true
    · obtain ⟨r, hm, rfl⟩ := step_rest hr' hq hs
      exact (hm.inv h hq).timers rfl le_rfl le_rfl
    · have hq' : s.seq.engineIdle = false := by simpa using hq
      obtain ⟨e, x, hm, rfl⟩ := step_busy hr' (h.busy_iff.mpr hq') hq' hs
      exact (hm.inv h).timers rfl le_rfl le_rfl

end Sys2Proof.Machine
end

section
/-! PROOFS. What a cycle may change in the flags of R44, the buffers and the counters, move by move. -/

namespace Sys2Proof.Machine

/-! ### The kinds of cycle -/

section
variable {s : State}

theorem atLineOp_of (hq : s.seq.command.isSome = true) (hd : s.dly = 0) (hu : s.ustep.toNat < s.bop.len) :
    s.atLineOp = true := by
  simp [State.atLineOp, hq, hd, hu]

theorem completing_of {b : Bop} (hq : s.seq.command = some b) (hd : s.dly = 0) (hu : ¬ s.ustep.toNat < s.bop.len) :
    s.completing = true := by
  simpa [State.completing, hq, hd] using hu

/-- The one read among the line ops is told by bit 2 of its code (R91). -/
theorem lop_bit2_iff (s : State) : s.lop.getLsbD 2 = true ↔ s.lop = Lop.sdaRd := by
  rcases uop_legal s.bop s.ustep.toNat s.bdata s.blast with h | h | h | h | h <;> simp only [State.lop, h] <;> decide

/-- A set op writes lines and the delay only (R123 to R126). -/
theorem lineOp_of_set (h : s.lop ≠ Lop.sdaRd) :
    ∃ d v e y, s.lineOp = { s with sclDir := d, sclVal := v, sdaDir := e, dly := y } := by
  have hl : s.lop = Lop.sclLo ∨ s.lop = Lop.sclHi ∨ s.lop = Lop.sdaLo ∨ s.lop = Lop.sdaHi ∨ s.lop = Lop.sdaRd :=
    uop_legal _ _ _ _
  rcases hl with hl | hl | hl | hl | hl
  · exact ⟨_, _, _, _, lineOp_of_sclLo hl⟩
  · rw [lineOp_of_sclHi hl]
    split_ifs <;> exact ⟨_, _, _, _, rfl⟩
  · exact ⟨_, _, _, _, lineOp_of_sdaLo hl⟩
  · exact ⟨_, _, _, _, lineOp_of_sdaHi hl⟩
  · exact absurd hl h

end

theorem sdaOp_ne_sdaRd (level : Bool) : sdaOp level ≠ Lop.sdaRd := by cases level <;> decide

/-- `B_OUT` samples at step 34 only (R149). -/
theorem uop_out_sdaRd {u : Nat} (hu : u < 36) {d : Byte} {l : Bool} (h : uop .out u d l = Lop.sdaRd) : u = 34 := by
  rcases uop_out_cases hu d l with ⟨-, -, hop⟩ | ⟨-, -, hop⟩ | ⟨-, -, hop⟩ | ⟨-, -, hop⟩ | ⟨-, hop⟩ | ⟨-, hop⟩ | ⟨hu34, -⟩
    | ⟨-, hop⟩
  case inr.inr.inr.inr.inr.inr.inl => exact hu34
  case inr.inl | inr.inr.inr.inr.inl => exact absurd (hop.symm.trans h) (sdaOp_ne_sdaRd _)
  all_goals exact absurd (hop.symm.trans h) (by decide)

/-! ### The flags of R44, in the engine's moves -/

section
variable {s e : State}

/-- `ack` is written by the sample of `B_OUT` only (R149). -/
theorem EngineMove.ack (hm : EngineMove s e) : e.ack = s.ack ∨ (s.readsLine = true ∧ s.bop = .out ∧ s.ustep = 34) := by
  cases hm with
  | lineOp hq hd hu =>
    by_cases hop : s.lop = Lop.sdaRd
    · by_cases hb : s.bop = .out
      · have hread : s.readsLine = true := by
          rw [State.readsLine, atLineOp_of hq hd hu, (lop_bit2_iff s).mpr hop]
          rfl
        rw [State.lop, hb] at hop
        rw [hb] at hu
        exact .inr ⟨hread, hb, BitVec.eq_of_toNat_eq (uop_out_sdaRd hu hop)⟩
      · left
        rw [State.afterUop_ack, lineOp_of_sdaRd hop, deliver_eq]
        exact if_neg hb
    · left
      obtain ⟨_, _, _, _, hl⟩ := lineOp_of_set hop
      rw [State.afterUop_ack, hl]
  | _ => exact .inl (by simp)

/-- A failing read is noted, nothing else is (R127). -/
theorem EngineMove.rderrSeen (hm : EngineMove s e) :
    e.rderrSeen = s.rderrSeen ∨ (s.readsLine = true ∧ s.cur.ioRdErr = true ∧ e.rderrSeen = true) := by
  cases hm with
  | lineOp hq hd hu =>
    rw [State.afterUop_rderrSeen]
    by_cases hop : s.lop = Lop.sdaRd
    · have hread : s.readsLine = true := by
        rw [State.readsLine, atLineOp_of hq hd hu, (lop_bit2_iff s).mpr hop]
        rfl
      rw [lineOp_of_sdaRd hop]
      cases hx : s.cur.ioRdErr <;> simp [hread]
    · left
      obtain ⟨_, _, _, _, hl⟩ := lineOp_of_set hop
      rw [hl]
  | _ => exact .inl (by simp)

/-- `BUSY`, `DONE` and `OK` move at the end of a transaction and at a fatal abort (R181, R220). -/
theorem EngineMove.outcome (hm : EngineMove s e) :
    (e.busy = s.busy ∧ e.done = s.done ∧ e.ok = s.ok) ∨ s.finishes = true ∨ s.writeFails = true := by
  cases hm with
  | abort hq hd hu ha => exact .inr (.inr (by simp [State.writeFails, atLineOp_of hq hd hu, ha]))
  | wStopEnd hq hd hu hr =>
    exact .inr (.inl (by simp [State.finishes, completing_of (s := s) (b := .stop) (by rw [hq]; rfl) hd hu, hq, hr]))
  | retriesOut hq hd hu ht =>
    exact .inr (.inl (by simp [State.finishes, completing_of (s := s) (b := .stop) (by rw [hq]; rfl) hd hu, hq, ht]))
  | rStopEnd hq hd hu | abStopEnd hq hd hu =>
    exact .inr (.inl (by simp [State.finishes, completing_of (s := s) (b := .stop) (by rw [hq]; rfl) hd hu, hq]))
  | _ => exact .inl (by simp)

theorem noteNak_nakSeen_cases (s : State) : s.noteNak.nakSeen = s.nakSeen ∨ (s.ack = false ∧ s.noteNak.nakSeen = true) := by
  cases h : s.ack <;> simp [h]

/-- A NAK is noted at the completion of a `B_OUT` (R177, R178, R184). -/
theorem EngineMove.nakSeen (hm : EngineMove s e) :
    e.nakSeen = s.nakSeen ∨ (s.completing = true ∧ s.seq.command = some .out ∧ s.ack = false ∧ e.nakSeen = true) := by
  have noted (hq : s.seq.command = some .out) (hd : s.dly = 0) (hu : ¬ s.ustep.toNat < s.bop.len)
      (he : e.nakSeen = s.noteNak.nakSeen) :
      e.nakSeen = s.nakSeen ∨ (s.completing = true ∧ s.seq.command = some .out ∧ s.ack = false ∧ e.nakSeen = true) := by
    rw [he]
    exact (noteNak_nakSeen_cases s).imp_right fun ⟨ha, hn⟩ => ⟨completing_of hq hd hu, hq, ha, hn⟩
  cases hm with
  | wAddrNak hq hd hu | wAddrData hq hd hu | wAddrStop hq hd hu | wDataNak hq hd hu | wDataNext hq hd hu
  | wDataStop hq hd hu => exact noted (by rw [hq]; rfl) hd hu (by simp)
  | rAddrNak hq hd hu ha => exact noted (by rw [hq]; rfl) hd hu (by simp [ha])
  | _ => exact .inl (by simp)

/-- `FAULT` is set by the fatal abort (R220). -/
theorem EngineMove.fault (hm : EngineMove s e) : e.fault = s.fault ∨ (s.writeFails = true ∧ e.fault = true) := by
  cases hm with
  | abort hq hd hu ha => exact .inr ⟨by simp [State.writeFails, atLineOp_of hq hd hu, ha], rfl⟩
  | _ => exact .inl (by simp)

/-- `START_OPEN` moves with the last set op of `B_START` and of `B_STOP` (R145, R146). -/
theorem EngineMove.startOpen (hm : EngineMove s e) :
    e.startOpen = s.startOpen ∨ (s.setsLine = true ∧ s.ustep = 3 ∧
      ((s.bop = .start ∧ e.startOpen = true) ∨ (s.bop = .stop ∧ e.startOpen = false))) := by
  cases hm with
  | lineOp hq hd hu =>
    have sets (hb : s.bop = .start ∨ s.bop = .stop) (h3 : s.ustep = 3) : s.setsLine = true := by
      have hlop : s.lop = Lop.sdaLo ∨ s.lop = Lop.sdaHi := by
        rcases hb with hb | hb <;> simp [State.lop, hb, h3, uop]
      rw [State.setsLine, atLineOp_of hq hd hu]
      rcases hlop with hl | hl <;> rw [hl] <;> decide
    by_cases h3 : s.ustep = 3
    · by_cases h1 : s.bop = .start
      · exact .inr ⟨sets (.inl h1) h3, h3, .inl ⟨h1, by simp [State.afterUop, h1, h3]⟩⟩
      · by_cases h2 : s.bop = .stop
        · exact .inr ⟨sets (.inr h2) h3, h3, .inr ⟨h2, by simp [State.afterUop, h2, h3]⟩⟩
        · exact .inl (afterUop_startOpen_other h1 h2)
    · have hne : s.ustep.toNat ≠ 3 := (ustep_eq_three_iff s).not.mp h3
      left
      rw [afterUop_startOpen]
      simp only [hne, and_false, if_false]
  | _ => exact .inl (by simp)

end

/-! ### The flags of R44, in the requests of the host -/

/-- A request moves a flag only when it is an accepted GO, and then none that belong to the lines (R172). -/
theorem HostMove.flags {s r : State} (hm : HostMove s r) :
    (r.ack = s.ack ∧ r.fault = s.fault ∧ r.startOpen = s.startOpen)
    ∧ (s.acceptsGo = true ∨ (r.busy = s.busy ∧ r.done = s.done ∧ r.ok = s.ok ∧ r.nakSeen = s.nakSeen
        ∧ r.rderrSeen = s.rderrSeen)) := by
  cases hm with
  | goRejected hs hw hb hi hg hq hf | goAccepted hs hw hb hi hg hq hf =>
    exact ⟨by simp, .inl (by simp [State.acceptsGo, hs, hw, hb, hi, hg, hq, hf])⟩
  | _ => exact ⟨by simp, .inr (by simp)⟩

/-! ### The buffers -/

/-- `RXBUF` after a write. -/
theorem rxByte_of_write {s t : State} {i : Nat} {b : Byte} (hb : t.rxbuf = Memory.write s.rxbuf i b)
    (he : t.epoch = s.epoch) (j : Nat) : t.rxByte j = if j = i then b else s.rxByte j := by
  simp only [State.rxByte, hb, he, Memory.read_write]
  split_ifs <;> rfl

/-- `TXBUF` after a write. -/
theorem txByte_of_write {s t : State} {i : Nat} {b : Byte} (hb : t.txbuf = Memory.write s.txbuf i b)
    (he : t.epoch = s.epoch) (j : Nat) : t.txByte j = if j = i then b else s.txByte j := by
  simp only [State.txByte, hb, he, Memory.read_write]
  split_ifs <;> rfl

/-- The count of resets moves at a reset only. -/
theorem EngineMove.epoch {s e : State} (hm : EngineMove s e) : e.epoch = s.epoch := by
  cases hm <;> simp

/-- The engine writes `RXBUF` at the completion of `S_RDATA` (R187). -/
theorem EngineMove.rxbuf {s e : State} (hm : EngineMove s e) :
    e.rxbuf = s.rxbuf ∨ (s.completing = true ∧ s.seq = .rData ∧ e.rxbuf = Memory.write s.rxbuf s.ridx.toNat s.bdata) := by
  cases hm with
  | rDataNext hq hd hu | rDataLast hq hd hu =>
    exact .inr ⟨completing_of (b := .inp) (by rw [hq]; rfl) hd hu, hq, by simp⟩
  | _ => exact .inl (by simp)

/-- A host request leaves `RXBUF` alone (R63). -/
theorem HostMove.rxbuf {s r : State} (hm : HostMove s r) : r.rxbuf = s.rxbuf ∧ r.epoch = s.epoch := by
  cases hm <;> simp

/-- The host writes `TXBUF` by a write to its index, while not busy (R62, R65). -/
theorem HostMove.txbuf {s r : State} (hm : HostMove s r) :
    r.txbuf = s.txbuf ∨ (s.cur.hSel = true ∧ s.cur.hWe = true ∧ s.busy = false ∧
      ∃ i < s.par.txDepth, s.cur.hIdx.toNat = 0x100 + i ∧ r.txbuf = Memory.write s.txbuf i (s.cur.hWdata.setWidth 8)) := by
  cases hm with
  | store hs hw hb => exact (hostStore_txbuf s.noReadData s.cur.hIdx s.cur.hWdata).imp_right fun h => ⟨hs, hw, hb, h⟩
  | _ => exact .inl (by simp)

/-! ### The counters -/

/-- The counters of a running transaction in one move of the engine (R26, R198). -/
theorem EngineMove.counters {s e : State} (hm : EngineMove s e) (h : Inv s) :
    (e.widx = s.widx ∨ e.widx.toNat = s.first ∨ e.widx.toNat = s.widx.toNat + 1)
    ∧ (e.ridx = s.ridx ∨ e.ridx = 0 ∨ e.ridx.toNat = s.ridx.toNat + 1)
    ∧ (e.tries = s.tries ∨ e.tries.toNat = s.tries.toNat + 1) := by
  cases hm with
  | wAddrData => exact ⟨.inr (.inl (by rw [entered_widx]; exact first_toNat s)), by simp⟩
  | wDataNext hq => exact ⟨.inr (.inr (by simpa using h.widx_succ hq)), by simp⟩
  | rAddrAck => simp
  | rDataNext hq => exact ⟨by simp, .inr (.inr (by simpa using h.ridx_succ hq)), by simp⟩
  | retry hq _ _ ht => exact ⟨by simp, by simp, .inr (by simpa using (h.tries_succ (by rw [hq]; rfl) ht).1)⟩
  | _ => simp

/-- The index recorded with a NAK of a payload byte counts the payload from 1, without a borrow (R178, R213). -/
theorem Inv.failIndex_toNat {s : State} (h : Inv s) (hq : s.seq = .wData) :
    (s.widx - BitVec.ofNat 9 s.first + 1).toNat = s.widx.toNat - s.first + 1 := by
  obtain ⟨hge, hlt⟩ := h.descriptor.widxInside hq
  have hlen := h.lengths (by rw [hq]; rfl)
  have hf := first_toNat s
  generalize BitVec.ofNat 9 s.first = f at hf ⊢
  bv_omega

/-- `F_WDATA_NAK` is recorded by the completion of `S_WDATA` only (R178). -/
theorem EngineMove.wDataNak_index {s e : State} (hm : EngineMove s e) (h : Inv s) (hc : e.failCode = .wDataNak) :
    s.failCode = .wDataNak ∨ e.failIndex.toNat = s.widx.toNat - s.first + 1 := by
  cases hm with
  | wDataNak hq => exact .inr (by simpa using h.failIndex_toNat hq)
  | abort | wAddrNak | retriesOut => simp at hc
  | _ => exact .inl (by simpa using hc)

end Sys2Proof.Machine
end

section
/-! PROOFS. Where the fields of the read-only registers stand (R40 to R43). -/

namespace Sys2Proof.Machine

theorem Dir.bit_iff (d : Dir) : d.bit = true ↔ d = .out := by cases d <;> decide

/-- The flags of `STATUS` (R40). -/
theorem statusWord_bits (s : State) :
    s.statusWord.getLsbD 0 = s.busy ∧ s.statusWord.getLsbD 1 = s.done ∧ s.statusWord.getLsbD 2 = s.ok
      ∧ s.statusWord.getLsbD 3 = s.nakSeen ∧ s.statusWord.getLsbD 4 = s.rderrSeen ∧ s.statusWord.getLsbD 5 = s.fault
      ∧ s.statusWord.getLsbD 6 = s.startOpen ∧ s.statusWord.getLsbD 7 = false := by
  unfold State.statusWord
  refine ⟨?_, ?_, ?_, ?_, ?_, ?_, ?_, ?_⟩ <;> (repeat rw [BitVec.getLsbD_append]) <;> simp

/-- The fields of `STATUS` above its flags (R40). -/
theorem statusWord_fields (s : State) :
    s.statusWord.extractLsb' 8 4 = s.failCode.code ∧ s.statusWord.extractLsb' 12 4 = s.seq.code
      ∧ s.statusWord.extractLsb' 16 6 = s.ustep ∧ s.statusWord.extractLsb' 22 10 = 0 := by
  unfold State.statusWord
  refine ⟨?_, ?_, ?_, BitVec.extractLsb'_append_eq_left⟩
  · rw [BitVec.extractLsb'_append_eq_of_add_le (by decide : 8 + 4 ≤ 22),
      BitVec.extractLsb'_append_eq_of_add_le (by decide : 8 + 4 ≤ 16),
      BitVec.extractLsb'_append_eq_of_add_le (by decide : 8 + 4 ≤ 12)]
    exact BitVec.extractLsb'_append_eq_left
  · rw [BitVec.extractLsb'_append_eq_of_add_le (by decide : 12 + 4 ≤ 22),
      BitVec.extractLsb'_append_eq_of_add_le (by decide : 12 + 4 ≤ 16)]
    exact BitVec.extractLsb'_append_eq_left
  · rw [BitVec.extractLsb'_append_eq_of_add_le (by decide : 16 + 6 ≤ 22)]
    exact BitVec.extractLsb'_append_eq_left

/-- The fields of `RESULT` (R41). -/
theorem resultWord_fields (s : State) :
    s.resultWord.extractLsb' 0 9 = s.rxcnt ∧ s.resultWord.extractLsb' 9 7 = 0
      ∧ s.resultWord.extractLsb' 16 9 = s.failIndex ∧ s.resultWord.extractLsb' 25 7 = 0 := by
  unfold State.resultWord
  refine ⟨?_, ?_, ?_, BitVec.extractLsb'_append_eq_left⟩
  · rw [BitVec.extractLsb'_append_eq_of_add_le (by decide : 0 + 9 ≤ 25)]
    exact extract_low _ _ _
  · rw [BitVec.extractLsb'_append_eq_of_add_le (by decide : 9 + 7 ≤ 25)]
    exact extract_middle _ _ _
  · exact extract_middle _ _ _

/-- The fields of `DIAG` (R42). -/
theorem diagWord_fields (s : State) :
    s.diagWord.extractLsb' 0 8 = s.failByte ∧ s.diagWord.extractLsb' 8 16 = s.tries ∧ s.diagWord.extractLsb' 24 8 = 0 :=
  ⟨extract_low _ _ _, extract_middle _ _ _, extract_high _ _ _⟩

/-- The bits of `LINES` (R43). -/
theorem linesWord_bits (s : State) :
    s.linesWord.getLsbD 0 = s.sclDir.bit ∧ s.linesWord.getLsbD 1 = s.sclVal ∧ s.linesWord.getLsbD 2 = s.sdaDir.bit
      ∧ s.linesWord.getLsbD 3 = false ∧ s.linesWord.getLsbD 4 = s.cur.sdaI ∧ s.linesWord.extractLsb' 5 27 = 0 := by
  unfold State.linesWord
  refine ⟨?_, ?_, ?_, ?_, ?_, BitVec.extractLsb'_append_eq_left⟩ <;> (repeat rw [BitVec.getLsbD_append]) <;>
    simp [State.sdaVal]

end Sys2Proof.Machine
end

section
/-! PROOFS. The obligations about the state: its reset, its invariant, and what a step may change. -/

namespace Sys2Proof.Machine

/-- Settles O41: a reset ends in the reset state; else the engine's move, or the request to a resting block, keeps each part
of the invariant. -/
theorem everyStepKeepsTheInvariant : Obligations.EveryStepKeepsTheInvariant := fun _ _ h hs => h.step hs

/-- Settles O38: a resting block changes its flags by an accepted GO alone; a running one as the engine's move does. -/
theorem flagsChangeOnlyWhereR44Says : Obligations.FlagsChangeOnlyWhereR44Says := by
  intro s t hr hs
  by_cases hq : s.seq.engineIdle = true
  · obtain ⟨r, hm, rfl⟩ := step_rest hr hq hs
    obtain ⟨⟨hack, hfault, hopen⟩, hgo⟩ := hm.flags
    rcases hgo with hgo | ⟨hbusy, hdone, hok, hnak, hrd⟩
    · exact ⟨absurd hack, fun _ => .inl hgo, fun _ => .inl hgo, fun _ => .inl hgo, fun _ => .inl hgo, fun _ => .inl hgo,
        absurd hfault, absurd hopen⟩
    · exact ⟨absurd hack, absurd hbusy, absurd hdone, absurd hok, absurd hnak, absurd hrd, absurd hfault, absurd hopen⟩
  · obtain ⟨r, e, -, hm, rfl⟩ := step_running hr (by simpa using hq) hs
    refine ⟨hm.ack.resolve_left, ?_, ?_, ?_, fun hne => .inr (hm.nakSeen.resolve_left hne),
      fun hne => .inr (hm.rderrSeen.resolve_left hne), hm.fault.resolve_left, hm.startOpen.resolve_left⟩
    · exact fun hne => .inr (hm.outcome.resolve_left fun ⟨hbusy, _, _⟩ => hne hbusy)
    · exact fun hne => .inr (hm.outcome.resolve_left fun ⟨_, hdone, _⟩ => hne hdone)
    · exact fun hne => .inr (hm.outcome.resolve_left fun ⟨_, _, hok⟩ => hne hok)

/-- Settles O39: `RXBUF` is what the engine's move leaves, `TXBUF` what the host's request leaves. -/
theorem buffersChangeOnlyByTheirWriters : Obligations.BuffersChangeOnlyByTheirWriters := by
  intro s t hr hs
  obtain ⟨r, e, hh, he, rfl⟩ := step_moves hr hs
  obtain ⟨hrx, hre⟩ := hh.rxbuf
  have hepoch : (joinWrites s r e).epoch = s.epoch := by
    unfold joinWrites
    split_ifs
    · exact hre
    · exact he.epoch
  have htx : (joinWrites s r e).txbuf = r.txbuf := by
    unfold joinWrites
    split_ifs <;> rfl
  constructor
  · intro hne
    by_cases hq : s.seq.engineIdle = true
    · rw [joinWrites_rest hq] at hne
      exact absurd hrx hne
    · have hjoin : (joinWrites s r e).rxbuf = e.rxbuf := by rw [joinWrites, if_neg hq]
      obtain ⟨hc, hseq, hw⟩ := he.rxbuf.resolve_left fun h => hne (hjoin.trans h)
      exact ⟨hc, hseq, rxByte_of_write (hjoin.trans hw) hepoch⟩
  · intro hne
    obtain ⟨hsel, hwe, hb, i, hi, hidx, hw⟩ := hh.txbuf.resolve_left fun h => hne (htx.trans h)
    exact ⟨hsel, hwe, hb, i, hi, hidx, txByte_of_write (htx.trans hw) hepoch⟩

/-- Settles O45: the counters go as the engine's move takes them, and the invariant of the next state keeps the indices in
use inside the buffers. -/
theorem countersNeverWrap : Obligations.CountersNeverWrap := by
  intro s t h hr hb hs
  have ht : Inv t := h.step hs
  have hq := h.busy_iff.mp hb
  obtain ⟨e, x, hm, rfl⟩ := step_busy hr hb hq hs
  obtain ⟨hwidx, hridx, htries⟩ := hm.counters h
  refine ⟨hwidx, hridx, htries, fun hseq => ?_, fun hseq => ?_, fun hc hne => ?_⟩
  · obtain ⟨-, hlt⟩ := ht.descriptor.widxInside hseq
    obtain ⟨hlen, -⟩ := ht.lengths (by rw [hseq]; rfl)
    exact hlt.trans_le hlen
  · have hlt := ht.descriptor.ridxInside hseq
    obtain ⟨-, hlen, -⟩ := ht.lengths (by rw [hseq]; rfl)
    exact hlt.trans_le hlen
  · have hi := (hm.wDataNak_index h hc).resolve_left hne
    exact ⟨hi ▸ Nat.le_add_left _ _, hi⟩

/-- Settles O1: every register at 0 or its reset value, and no byte of the buffers written. -/
theorem resetStateHoldsTheTable : Obligations.ResetStateHoldsTheTable := by
  refine ⟨⟨rfl, rfl, rfl, rfl⟩, ⟨rfl, rfl, rfl, rfl⟩, ⟨rfl, rfl, rfl, rfl, rfl, rfl, rfl, rfl⟩,
    ⟨rfl, rfl, rfl, rfl, rfl, rfl, rfl⟩, ⟨rfl, rfl, rfl, rfl, rfl, rfl, rfl, rfl⟩, ⟨rfl, rfl, rfl⟩, fun i => ⟨rfl, rfl⟩, rfl⟩

/-- Settles O40: the reset state of legal parameters is a resting block with empty buffers. -/
theorem invariantHoldsAtReset : Obligations.InvariantHoldsAtReset :=
  ⟨inv_atReset _ _ _ _ config_params_wf, inv_atReset⟩

/-- Settles O50: the fields are read off their places in the concatenations. -/
theorem statusWordsLayout : Obligations.StatusWordsLayout := by
  intro s
  obtain ⟨hscl, hval, hsda, hlines⟩ := linesWord_bits s
  obtain ⟨h0, h1, h2, h3, h4, h5, h6, h7⟩ := statusWord_bits s
  exact ⟨⟨h0, h1, h2, h3, h4, h5, h6, h7, statusWord_fields s⟩, resultWord_fields s, diagWord_fields s,
    ⟨hscl ▸ Dir.bit_iff _, hval, hsda ▸ Dir.bit_iff _, hlines⟩, by decide, by decide⟩

/-- Settles O55: each output is the state's own field; `sda_o` is `sda_val`, hard-wired 0. -/
theorem outputsShowTheState : Obligations.OutputsShowTheState :=
  fun s => ⟨s.sclDir.bit_iff, rfl, s.sdaDir.bit_iff, rfl, rfl, rfl⟩

end Sys2Proof.Machine
end

section
/-! PROOFS. The host port: what a request reads and what it stores, index by index; and a busy cycle as the engine's move
with the read data beside it. -/

namespace Sys2Proof.Machine

/-! ### The read data of a cycle (R61) -/

/-- Whatever the request, the port drives the register read, or 0. -/
theorem HostMove.hRdata {s r : State} (hm : HostMove s r) : r.hRdata = s.portData := by
  cases hm with
  | none hs => simp [State.portData, hs]
  | read hs hw => simp [State.portData, hs, hw]
  | ignored _ hw | cmdNothing _ hw | store _ hw | goIgnored _ hw | goRejected _ hw | goAccepted _ hw =>
    simp [State.portData, hw]

/-- The read data is the host's write in every state of the engine (R245). -/
@[simp] theorem joinWrites_hRdata (s r e : State) : (joinWrites s r e).hRdata = r.hRdata := by
  unfold joinWrites
  split_ifs <;> rfl

/-! ### A busy cycle (R65, R245) -/

/-- The clock is moved by the edge alone. -/
theorem EngineMove.clock {s e : State} (hm : EngineMove s e) : e.ins = s.ins ∧ e.cycle = s.cycle := by
  cases hm <;> simp [State.entered]

/-- While a transaction runs, a cycle without reset is the engine's step with the read data and the clock beside it. -/
theorem step_eq_endCycle {s : State} (hr : s.cur.rst = false) (hb : s.busy = true) (hq : s.seq.engineIdle = false) :
    ∃ e, engineStep s = .next e ∧ EngineMove s e ∧ step s = .next (s.endCycle e) := by
  obtain ⟨r, hpart, hr'⟩ := hostPart_move s
  obtain ⟨e, hengine, he⟩ := engineStep_move s
  have hdata := hr'.hRdata
  obtain ⟨x, rfl⟩ := hr'.of_busy hb
  obtain ⟨hcfg, haddr, hwlen, hrlen, hretry, hwait, hqdelay, htx, -⟩ := he.keeps_host
  obtain ⟨hins, hcycle⟩ := he.clock
  refine ⟨e, hengine, he, ?_⟩
  rw [step_of_parts hr hpart hengine, joinWrites, if_neg (by simp [hq])]
  simp only [State.closeCycle, State.endCycle, hins, hcycle, ← hcfg, ← haddr, ← hwlen, ← hrlen, ← hretry, ← hwait,
    ← hqdelay, ← htx, ← hdata]

/-! ### The indices of a read (R31, R64) -/

/-- The depths R5 allows keep the buffers' indices apart. -/
theorem depths_le_of_wf {p : Params} (h : p.wf = true) : p.txDepth ≤ 256 ∧ p.rxDepth ≤ 256 := by
  simp only [Params.wf, Bool.and_eq_true, decide_eq_true_eq] at h
  omega

/-- The indices of the buffers' bytes fit the ten bits of an index. -/
theorem bufferIdx_toNat {p : Params} (h : p.wf = true) {i : Nat} :
    (i < p.txDepth → (BitVec.ofNat 10 (0x100 + i)).toNat = 0x100 + i)
    ∧ (i < p.rxDepth → (BitVec.ofNat 10 (0x200 + i)).toNat = 0x200 + i) := by
  obtain ⟨htx, hrx⟩ := depths_le_of_wf h
  constructor <;> intro hi <;> exact (BitVec.toNat_ofNat _ 10).trans (Nat.mod_eq_of_lt (by omega))

/-- Above the registers a read reaches a buffer or nothing. -/
theorem hostRead_above {s : State} {idx : HostIdx} (h : 0x00C ≤ idx.toNat) :
    s.hostRead idx =
      if 0x100 ≤ idx.toNat ∧ idx.toNat < 0x100 + s.par.txDepth then (s.txByte (idx.toNat - 0x100)).setWidth 32
      else if 0x200 ≤ idx.toNat ∧ idx.toNat < 0x200 + s.par.rxDepth then (s.rxByte (idx.toNat - 0x200)).setWidth 32
      else 0 := by
  unfold State.hostRead
  dsimp only
  iterate 11 rw [if_neg (by omega)]

theorem hostRead_txbuf {s : State} {idx : HostIdx} {i : Nat} (h : idx.toNat = 0x100 + i) (hi : i < s.par.txDepth) :
    s.hostRead idx = (s.txByte i).setWidth 32 := by
  rw [hostRead_above (by omega), if_pos (by omega), h, Nat.add_sub_cancel_left]

theorem hostRead_rxbuf {s : State} {idx : HostIdx} {i : Nat} (hp : s.par.wf = true) (h : idx.toNat = 0x200 + i)
    (hi : i < s.par.rxDepth) : s.hostRead idx = (s.rxByte i).setWidth 32 := by
  obtain ⟨htx, -⟩ := depths_le_of_wf hp
  rw [hostRead_above (by omega), if_neg (by omega), if_pos (by omega), h, Nat.add_sub_cancel_left]

/-- A reserved index reads as 0 (R66). -/
theorem hostRead_reserved {s : State} {idx : HostIdx} (hlo : 0x00C ≤ idx.toNat)
    (htx : ¬ (0x100 ≤ idx.toNat ∧ idx.toNat < 0x100 + s.par.txDepth))
    (hrx : ¬ (0x200 ≤ idx.toNat ∧ idx.toNat < 0x200 + s.par.rxDepth)) : s.hostRead idx = 0 := by
  rw [hostRead_above hlo, if_neg htx, if_neg hrx]

theorem exec_hread {s : State} {idx : HostIdx} {x : Reg} (h : s.hostRead idx = x) :
    exec (.hread idx) s = .next { s with hRdata := x } := by
  subst h
  rfl

/-! ### The indices of a write (R31, R67) -/

/-- Above the descriptor a write reaches `TXBUF` or nothing. -/
theorem hostStore_above {s : State} {idx : HostIdx} {v : Reg} (h : 0x008 ≤ idx.toNat) :
    s.hostStore idx v =
      if 0x100 ≤ idx.toNat ∧ idx.toNat < 0x100 + s.par.txDepth then
        { s with txbuf := Memory.write s.txbuf (idx.toNat - 0x100) (v.setWidth 8) }
      else s := by
  unfold State.hostStore
  dsimp only
  iterate 7 rw [if_neg (by omega)]

theorem hostStore_txbuf_index {s : State} {idx : HostIdx} {v : Reg} {i : Nat} (h : idx.toNat = 0x100 + i)
    (hi : i < s.par.txDepth) :
    s.hostStore idx v = { s with txbuf := Memory.write s.txbuf i (v.extractLsb' 0 8) } := by
  rw [hostStore_above (by omega), if_pos (by omega), h, Nat.add_sub_cancel_left,
    BitVec.setWidth_eq_extractLsb' (by decide)]

theorem hostStore_ignored {s : State} {idx : HostIdx} {v : Reg} (hlo : 0x008 ≤ idx.toNat)
    (htx : ¬ (0x100 ≤ idx.toNat ∧ idx.toNat < 0x100 + s.par.txDepth)) : s.hostStore idx v = s := by
  rw [hostStore_above hlo, if_neg htx]

section
variable {s : State} {idx : HostIdx} {v : Reg}

/-- While `BUSY` a write stores nothing (R65). -/
theorem exec_hwrite_busy (hb : s.busy = true) : exec (.hwrite idx v) s = .next { s with hRdata := 0 } :=
  if_pos hb

/-- A write of `CMD` without GO stores nothing. -/
theorem exec_hwrite_noGo (hg : v.getLsbD 0 = false) : exec (.hwrite 0#10 v) s = .next { s with hRdata := 0 } := by
  simp only [exec, execHwrite, hg, Bool.false_eq_true, if_false, if_true, ite_self]
  rfl

/-- A write of `CMD` with bit 0 set is TRANSACTION (R171; log 14). -/
theorem exec_hwrite_go (hg : v.getLsbD 0 = true) : exec (.hwrite 0#10 v) s = exec .transaction s := by
  simp only [exec, execHwrite, execTransaction, hg, if_true]

theorem hostStore_noReadData : s.noReadData.hostStore idx v = { s.hostStore idx v with hRdata := 0 } := by
  unfold State.hostStore State.noReadData
  dsimp only
  split_ifs <;> rfl

/-- A write to an idle block, `CMD` apart, is its store. -/
theorem exec_hwrite_store {t : State} (hb : s.busy = false) (hi : idx ≠ 0#10) (ht : s.hostStore idx v = t) :
    exec (.hwrite idx v) s = .next { t with hRdata := 0 } := by
  subst ht
  simp [exec, execHwrite, hb, hi, hostStore_noReadData]

/-- A write of a `TXBUF` index stores the low byte there. -/
theorem exec_hwrite_txbuf {i : Nat} (hp : s.par.wf = true) (hb : s.busy = false) (hi : i < s.par.txDepth) :
    exec (.hwrite (BitVec.ofNat 10 (0x100 + i)) v) s =
      .next { s with hRdata := 0, txbuf := Memory.write s.txbuf i (v.extractLsb' 0 8) } := by
  have hidx := (bufferIdx_toNat hp).1 hi
  exact exec_hwrite_store hb (by bv_omega) (hostStore_txbuf_index hidx hi)

end

/-! ### The obligations about the host port -/

/-- Settles O8: while `BUSY` the host's request is its read data alone, and no move of the engine writes the host's fields. -/
theorem busyCycleIsTheEnginesAlone : Obligations.BusyCycleIsTheEnginesAlone := by
  intro s hr hb hidle hfault
  have hq : s.seq.engineIdle = false := by simp [Bool.eq_false_iff, Seq.engineIdle_iff, hidle, hfault]
  obtain ⟨e, hengine, he, hstep⟩ := step_eq_endCycle hr hb hq
  obtain ⟨hcfg, haddr, hwlen, hrlen, hretry, hwait, hqdelay, htx, -⟩ := he.keeps_host
  exact ⟨e, hengine, hstep, hcfg, haddr, hwlen, hrlen, hretry, hwait, hqdelay, htx⟩

/-- Settles O54: the read data comes from the host's request, which reads the state before the edge. -/
theorem readsReturnTheValueBeforeTheEdge : Obligations.ReadsReturnTheValueBeforeTheEdge := by
  intro s t hr hs
  obtain ⟨r, e, hm, -, rfl⟩ := step_moves hr hs
  calc (joinWrites s r e).closeCycle.hRdata
      = r.hRdata := joinWrites_hRdata s r e
    _ = s.portData := hm.hRdata
    _ = _ := by simp [State.portData]

/-- Settles O51: the registers by their own indices, the buffers and the reserved indices by the ranges. -/
theorem hostReadReturnsTheRegister : Obligations.HostReadReturnsTheRegister := by
  intro s hp
  refine ⟨rfl, rfl, rfl, rfl, rfl, rfl, rfl, rfl, rfl, rfl, rfl, rfl, fun i hi => ?_, fun i hi => ?_, fun idx h => ?_⟩
  · exact exec_hread (hostRead_txbuf ((bufferIdx_toNat hp).1 hi) hi)
  · exact exec_hread (hostRead_rxbuf hp ((bufferIdx_toNat hp).2 hi) hi)
  · obtain ⟨htx, -⟩ := depths_le_of_wf hp
    exact exec_hread (hostRead_reserved (by omega) (by omega) (by omega))

/-- Settles O52: ignored while `BUSY`; else one store per index. -/
theorem hostWriteStoresTheRegister : Obligations.HostWriteStoresTheRegister := by
  intro s v hp
  refine ⟨fun hb _ => exec_hwrite_busy hb, fun hb => ?_⟩
  refine ⟨?_, ?_, ?_, ?_, ?_, ?_, ?_, exec_hwrite_noGo, exec_hwrite_go,
    fun i hi => ⟨_, exec_hwrite_txbuf hp hb hi, txByte_of_write rfl rfl⟩, fun idx h => ?_⟩
  iterate 7 exact exec_hwrite_store hb (by decide) rfl
  exact exec_hwrite_store hb (by bv_omega) (hostStore_ignored (by omega) (by omega))

/-- Settles O53: the byte stored is the byte read, at its index alone. -/
theorem txbufWriteReadsBack : Obligations.TxbufWriteReadsBack := by
  intro s i v hp hb hi
  have hbytes := txByte_of_write (s := s) (t := { s with
    hRdata := 0, txbuf := Memory.write s.txbuf i (v.extractLsb' 0 8) }) rfl rfl
  refine ⟨_, exec_hwrite_txbuf hp hb hi, rfl, hbytes, exec_hread ?_⟩
  refine (hostRead_txbuf ((bufferIdx_toNat hp).1 hi) ?_).trans ?_
  · exact hi
  · rw [hbytes, if_pos rfl]

end Sys2Proof.Machine
end

section
/-! PROOFS. The encodings of R90 to R95: a word and its fields, and that the decoder and the encoder undo each other. -/

namespace Sys2Proof

open Machine (decodeHost_hostWord decode_out decode_inp)

/-! ### A word and its fields -/

/-- A word of three fields is its fields side by side. -/
theorem append_three_fields {a b c : Nat} (x : BitVec (a + (b + c))) :
    x.extractLsb' (b + c) a ++ (x.extractLsb' c b ++ x.extractLsb' 0 c) = x := by
  rw [BitVec.extractLsb'_append_extractLsb'_eq_extractLsb' (Nat.zero_add c).symm,
    BitVec.extractLsb'_append_extractLsb'_eq_extractLsb' (Nat.zero_add _).symm, BitVec.extractLsb'_eq_self]

theorem extractLsb'_one {w : Nat} (x : BitVec w) (i : Nat) : x.extractLsb' i 1 = BitVec.ofBool (x.getLsbD i) := by
  ext j hj
  obtain rfl : j = 0 := by omega
  simp

/-- A byte-command word is its `bop`, `last` and `data` (R93). -/
theorem bcmd_fields (w : BitVec 12) :
    w.extractLsb' 9 3 ++ (BitVec.ofBool (w.getLsbD 8) ++ w.extractLsb' 0 8) = w := by
  rw [← extractLsb'_one]
  exact append_three_fields (a := 3) (b := 1) (c := 8) w

/-- A host port word is its `h_we`, `h_idx` and `h_wdata` (R95). -/
theorem request_fields (req : BitVec 43) :
    BitVec.ofBool (req.getLsbD 42) ++ (req.extractLsb' 32 10 ++ req.extractLsb' 0 32) = req := by
  rw [← extractLsb'_one]
  exact append_three_fields (a := 1) (b := 10) (c := 32) req

/-! ### From an operation to its word and back -/

/-- What a host port request is decoded to, by its fields (R95). -/
theorem decodeHost_fields (we : Bool) (idx : HostIdx) (v : Reg) :
    decodeHost (BitVec.ofBool we ++ (idx ++ v)) =
      if we then (if idx = 0#10 ∧ v.getLsbD 0 then .transaction else .hwrite idx v) else .hread idx :=
  decodeHost_hostWord { Machine.CycleIn.free 0 with hWe := we, hIdx := idx, hWdata := v }

/-- A write is well formed unless it is the write of `CMD` that sets GO. -/
theorem hwrite_wf_iff (idx : HostIdx) (v : Reg) :
    (Instr.hwrite idx v).wf = true ↔ ¬ (idx = 0#10 ∧ v.getLsbD 0 = true) := by
  simp [Instr.wf, imp_iff_not_or]

/-- The write of an index is read back, unless it is the word of TRANSACTION. -/
theorem decode_encode_hwrite {idx : HostIdx} {v : Reg} (h : (Instr.hwrite idx v).wf = true) :
    decode (encode (.hwrite idx v)) = .ok (.hwrite idx v) :=
  congrArg Except.ok ((decodeHost_fields true idx v).trans (if_neg ((hwrite_wf_iff idx v).mp h)))

/-- Settles O57, operation by operation: a line op by its code, a byte command by its word, a host request by its fields. -/
theorem decodeOfEncodeIsTheOperation : Obligations.DecodeOfEncodeIsTheOperation := by
  intro i hi
  cases i with
  | sclLo | sclHi | sdaLo | sdaHi | sdaRd => rfl
  | bInit | bStart | bStop => rfl
  | bOut data => exact decode_out data
  | bIn last => exact decode_inp last
  | hread idx => exact congrArg Except.ok (decodeHost_fields false idx 0)
  | hwrite idx v => exact decode_encode_hwrite hi
  | transaction => rfl

/-! ### From a word to its operation and back -/

/-- A line-operation code that decodes is the encoding of what it decodes to. -/
theorem encode_of_decodeLine {lop : BitVec 3} {i : Instr} (h : decodeLine lop = .ok i) :
    i.wf = true ∧ encode i = .l lop := by
  unfold decodeLine at h
  split_ifs at h
  all_goals
    cases h
    subst lop
    exact ⟨rfl, rfl⟩

/-- A byte-command word that decodes is the encoding of what it decodes to: the fields a command does not use are 0 (R93). -/
theorem encode_of_decodeByte {w : BitVec 12} {i : Instr} (h : decodeByte w = .ok i) :
    i.wf = true ∧ encode i = .b w := by
  have hw := bcmd_fields w
  unfold decodeByte at h
  dsimp only at h
  generalize w.extractLsb' 9 3 = bop at *
  generalize w.getLsbD 8 = last at *
  generalize w.extractLsb' 0 8 = data at *
  subst hw
  split_ifs at h with hout hlast hinp hdata hbop hused hinit hstart
  all_goals cases h
  · obtain rfl : last = false := by simpa using hlast
    subst hout
    exact ⟨rfl, rfl⟩
  · subst hinp hdata
    exact ⟨rfl, rfl⟩
  all_goals obtain ⟨rfl, rfl⟩ : last = false ∧ data = 0#8 := by simpa using hused
  · subst hinit
    exact ⟨rfl, rfl⟩
  · subst hstart
    exact ⟨rfl, rfl⟩
  · obtain rfl := (hbop.resolve_left hinit).resolve_left hstart
    exact ⟨rfl, rfl⟩

/-- The bits of a host port word that its row does not ignore are the encoding of what it decodes to. -/
theorem encode_decodeHost (req : BitVec 43) :
    (decodeHost req).wf = true ∧ encode (decodeHost req) = .h (req &&& hostMask req) := by
  have hreq := request_fields req
  generalize req.getLsbD 42 = we at *
  generalize req.extractLsb' 32 10 = idx at *
  generalize req.extractLsb' 0 32 = v at *
  subst hreq
  unfold hostMask
  rw [decodeHost_fields]
  split_ifs with hwe hgo
  · obtain ⟨rfl, hgo⟩ := hgo
    have hmask : 0x7FF00000001#43 = BitVec.allOnes 1 ++ (BitVec.allOnes 10 ++ 1#32) := rfl
    refine ⟨rfl, ?_⟩
    dsimp only
    rw [hmask, BitVec.and_append, BitVec.and_append, BitVec.and_allOnes, BitVec.and_allOnes,
      BitVec.and_one_eq_setWidth_ofBool_getLsbD, hgo, hwe]
    rfl
  · refine ⟨(hwrite_wf_iff idx v).mpr hgo, ?_⟩
    rw [hwe]
    exact congrArg CodeWord.h BitVec.and_allOnes.symm
  · have hmask : 0x7FF00000000#43 = BitVec.allOnes 1 ++ (BitVec.allOnes 10 ++ 0#32) := rfl
    refine ⟨rfl, ?_⟩
    dsimp only
    rw [hmask, BitVec.and_append, BitVec.and_append, BitVec.and_allOnes, BitVec.and_allOnes, BitVec.and_zero,
      Bool.eq_false_iff.mpr hwe]
    rfl

/-- Settles O58, interface by interface. -/
theorem encodeOfDecodeIsTheWord : Obligations.EncodeOfDecodeIsTheWord := by
  intro c i h
  cases c with
  | l lop => exact encode_of_decodeLine h
  | b bcmd => exact encode_of_decodeByte h
  | h req =>
    obtain rfl : decodeHost req = i := Except.ok.inj h
    exact encode_decodeHost req

/-! ### Reserved codes, written-out words, loads -/

/-- The byte-command codes from 5 on are none of R94's. -/
theorem decodeByte_reserved {w : BitVec 12} (h : 5 ≤ (w.extractLsb' 9 3).toNat) : decodeByte w = .error .reservedBop := by
  unfold decodeByte
  dsimp only
  generalize w.extractLsb' 9 3 = bop at *
  have hne (n : Nat) (hn : n < 5) : bop ≠ BitVec.ofNat 3 n := by
    rintro rfl
    rw [BitVec.toNat_ofNat] at h
    omega
  rw [if_neg (hne 3 (by decide)), if_neg (hne 4 (by decide)), if_neg]
  exact not_or.mpr ⟨hne 0 (by decide), not_or.mpr ⟨hne 1 (by decide), hne 2 (by decide)⟩⟩

/-- Settles O59: the three line codes by evaluation, the byte commands by their `bop`; the host decoder is total. -/
theorem reservedCodesAreRefused : Obligations.ReservedCodesAreRefused := by
  refine ⟨?_, fun _ => decodeByte_reserved, fun req => ⟨decodeHost req, rfl⟩⟩
  rintro lop (rfl | rfl | rfl) <;> rfl

/-- Settles O60: each word evaluates to its operation. -/
theorem sampleWordsDecode : Obligations.SampleWordsDecode := ⟨rfl, rfl, rfl, rfl, rfl, rfl, rfl⟩

/-- Settles O21: `exec` of a byte command is `State.startCommand` with the command's fields. -/
theorem byteCommandsLoadTheirOperands : Obligations.ByteCommandsLoadTheirOperands :=
  fun _ _ _ => ⟨rfl, rfl, rfl, rfl, rfl⟩

end Sys2Proof
end

section
/-! PROOFS. The placing of a word where the next step takes it from (log 6), interface by interface. -/

namespace Sys2Proof.Machine

/-! ### The word and its interface -/

/-- The word of a table row is placed on its own interface. -/
theorem withFetchWord_of_decodeTableWord {nbits w : Nat} {i : Instr} (h : decodeTableWord nbits w = some i) (s : State) :
    ∃ c, decode c = .ok i ∧ s.withFetchWord nbits w = s.withCodeWord c := by
  cases hc : codeWordOf nbits w with
  | error e => simp [decodeTableWord, hc] at h
  | ok c =>
    refine ⟨c, ?_, by rw [State.withFetchWord, hc]⟩
    cases hi : decode c with
    | error e => simp [decodeTableWord, hc, hi] at h
    | ok j => simpa [decodeTableWord, hc, hi] using h

/-- Every operation is encoded on its own interface (R90). -/
theorem format_encode (i : Instr) : (encode i).format = i.format := by cases i <;> rfl

/-- A word decodes to an operation of its own interface (R90). -/
theorem format_of_decode {c : CodeWord} {i : Instr} (h : decode c = .ok i) : i.format = c.format := by
  obtain ⟨-, hw⟩ := encodeOfDecodeIsTheWord c i h
  rw [← format_encode, hw]
  cases c <;> rfl

/-! ### Format H -/

theorem withHostWord_hostWord (s : State) (req : BitVec 43) : (s.withHostWord req).cur.hostWord = req :=
  request_fields req

/-- With the engine at rest a cycle is the request on the port, with the clock moved (R246). -/
theorem step_request {s : State} {i : Instr} (hr : s.cur.rst = false) (hsel : s.cur.hSel = true)
    (hq : s.seq.engineIdle = true) (hi : decodeHost s.cur.hostWord = i) :
    ∃ t, exec i s = .next t ∧ step s = .next t.closeCycle := by
  obtain ⟨t, ht, -⟩ := hostPart_move s
  obtain ⟨e, he, -⟩ := engineStep_move s
  have hpart : hostPart s = exec i s := by
    rw [hostPart, hsel, decode_host, hi]
    rfl
  exact ⟨t, hpart.symm.trans ht, by rw [step_of_parts hr ht he, joinWrites_rest hq]⟩

/-! ### Format L -/

theorem engineStep_of_command {s : State} (hq : s.seq.command.isSome = true) : engineStep s = commandCycle s := by
  unfold engineStep
  split <;> simp_all [Seq.command]

/-- The step of a byte command that a line op is placed on is one that runs it. -/
theorem withLineWord_runs (s : State) {lop : BitVec 3} {i : Instr} (h : decodeLine lop = .ok i) :
    (s.withLineWord lop).lop = lop ∧ (s.withLineWord lop).atLineOp = true ∧ (s.withLineWord lop).busy = true
      ∧ (s.withLineWord lop).cur.rst = false := by
  unfold decodeLine at h
  split_ifs at h
  all_goals
    subst lop
    exact ⟨rfl, rfl, rfl, rfl⟩

/-- The cycle of a line op is the line op with the byte engine's own writes (R142). -/
theorem step_of_atLineOp {s : State} {i : Instr} (hr : s.cur.rst = false) (hb : s.busy = true) (ha : s.atLineOp = true)
    (hi : decode (.l s.lop) = .ok i) :
    ∃ t, exec i s = .next t ∧ step s = .next (s.endCycle (if s.uopAborts then t else t.afterUop)) := by
  simp only [State.atLineOp, Bool.and_eq_true, beq_iff_eq, decide_eq_true_eq] at ha
  obtain ⟨⟨hq, hd⟩, hu⟩ := ha
  obtain ⟨e, he, -, hstep⟩ := step_eq_endCycle hr hb (Seq.engineIdle_of_command hq)
  have hexec : engineStep s = andThen (exec i s) (fun t => .next (if s.uopAborts then t else t.afterUop)) := by
    rw [engineStep_of_command hq, commandCycle, if_neg (not_not.mpr hd), if_pos hu, execUop, hi]
  obtain ⟨t, ht, hte⟩ := andThen_eq_next (hexec.symm.trans he)
  cases hte
  exact ⟨t, ht, hstep⟩

/-! ### Format B -/

/-- Entering a state that runs a byte command is the command's operation, with the pc moved (R173). -/
theorem enter_of_bcmdFor {s : State} {q : Seq} {n : BitVec 9} {w : BitVec 12} {i : Instr} (hw : s.bcmdFor q n = some w)
    (hi : decode (.b w) = .ok i) : enter q n s = exec i (s.setPc q 0) := by
  rw [enter, hw]
  dsimp only
  rw [hi]

/-- `B_INIT` goes on to `B_START` (R176). -/
theorem complete_init {s : State} (hq : s.seq = .init) : complete s = exec .bStart (s.setPc .wStart 0) := by
  rw [complete, hq]
  exact enter_of_bcmdFor rfl decode_start

theorem first_lt_two (s : State) : s.first < 2 := by
  unfold State.first
  split_ifs <;> decide

/-- An acknowledged address byte goes on to the first payload byte (R177). -/
theorem completeWAddr_data {s : State} {data : Byte} (ha : s.ack = true) (hl : s.first < s.wlen.toNat)
    (hd : Memory.read s.txbuf s.first = some data) :
    completeWAddr s =
      exec (.bOut data) (({ s.noteNak with widx := BitVec.ofNat 9 s.first } : State).setPc .wData 0) := by
  have hn : s.txByte (BitVec.ofNat 9 s.first).toNat = data := by
    rw [first_toNat, State.txByte, hd]
    rfl
  rw [completeWAddr, if_neg (by simp [ha]), if_pos hl]
  refine enter_of_bcmdFor ?_ (decode_out data)
  rw [← hn]
  rfl

/-- An acknowledged address byte without payload goes on to the STOP (R177). -/
theorem completeWAddr_stop {s : State} (ha : s.ack = true) (hl : s.wlen = 0) :
    completeWAddr s = exec .bStop (s.noteNak.setPc .wStop 0) := by
  rw [completeWAddr, if_neg (by simp [ha]), if_neg (by simp [hl])]
  exact enter_of_bcmdFor rfl decode_stop

/-- An acknowledged read address goes on to the first byte to receive (R184). -/
theorem completeRAddr_data {s : State} {last : Bool} (ha : s.ack = true) (hl : decide (s.rlen.toNat = 1) = last) :
    completeRAddr s = exec (.bIn last) (({ s with ridx := 0 } : State).setPc .rData 0) := by
  rw [completeRAddr, if_pos ha]
  refine enter_of_bcmdFor ?_ (decode_inp last)
  subst hl
  simp [State.bcmdFor, eq_comm]

/-- An accepted GO issues `B_INIT` (R172). -/
theorem exec_transaction_accepted {s : State} (hb : s.busy = false) (hq : s.seq = .idle) (hf : s.fault = false)
    (hd : s.badDescriptor = false) : exec .transaction s = exec .bInit (s.issuedFrom .bInit) := by
  have hd' : s.noReadData.badDescriptor = false := hd
  have hgo : go s.noReadData = exec .bInit (s.issuedFrom .bInit) := by
    rw [go, if_neg (by simp [hq, hf]), hd']
    rfl
  rw [← hgo]
  exact if_neg (by simp [hb])

/-- A completion step that issues an operation makes the cycle that operation, with the read data and the clock beside it. -/
theorem step_of_completes {s s' : State} {q : Seq} {i : Instr} (h : s.completes q) (hq : q.command.isSome = true)
    (hc : complete s = exec i s') : ∃ t, exec i s' = .next t ∧ step s = .next (s.endCycle t) := by
  obtain ⟨rfl, hd, hu, hb, hr⟩ := h
  obtain ⟨t, ht, -, hstep⟩ := step_eq_endCycle hr hb (Seq.engineIdle_of_command hq)
  have hexec : engineStep s = exec i s' := by
    rw [engineStep_of_command hq, commandCycle, if_neg (not_not.mpr hd), if_neg hu.not_lt, hc]
  exact ⟨t, hexec.symm.trans ht, hstep⟩

/-! Where each byte command is placed. -/

section
variable (s : State) {w : BitVec 12}

theorem withByteWord_init (h : decodeByte w = .ok .bInit) :
    s.withByteWord w = { s.withHostWord 0x40000000001#43 with
      seq := .idle, busy := false, fault := false, cfg := 0, wlen := 0, rlen := 0, retry := 0 } := by
  rw [State.withByteWord, h]

theorem withByteWord_start (h : decodeByte w = .ok .bStart) : s.withByteWord w = s.atStep .init .init 2 := by
  rw [State.withByteWord, h]

theorem withByteWord_stop (h : decodeByte w = .ok .bStop) :
    s.withByteWord w = { s.atStep .wAddr .out 36 with ack := true, wlen := 0 } := by
  rw [State.withByteWord, h]

theorem withByteWord_out {data : Byte} (h : decodeByte w = .ok (.bOut data)) :
    s.withByteWord w = { s.atStep .wAddr .out 36 with
      ack := true, wlen := 2, txbuf := Memory.write s.txbuf s.first data } := by
  rw [State.withByteWord, h]

theorem withByteWord_in {last : Bool} (h : decodeByte w = .ok (.bIn last)) :
    s.withByteWord w = { s.atStep .rAddr .out 36 with ack := true, rlen := if last then 1 else 2 } := by
  rw [State.withByteWord, h]

end

/-- The cycle in which GO issues `B_INIT` (R172). -/
theorem step_withByteWord_init (s : State) {w : BitVec 12} (h : decodeByte w = .ok .bInit) :
    ∃ t, exec .bInit ((s.withByteWord w).issuedFrom .bInit) = .next t
      ∧ step (s.withByteWord w) = .next ((s.withByteWord w).endCycle t) := by
  rw [withByteWord_init s h]
  have hword : decodeHost (s.withHostWord 0x40000000001#43).cur.hostWord = .transaction := by
    rw [withHostWord_hostWord]
    rfl
  obtain ⟨t, ht, hstep⟩ := step_request (i := .transaction) (s := { s.withHostWord 0x40000000001#43 with
    seq := .idle, busy := false, fault := false, cfg := 0, wlen := 0, rlen := 0, retry := 0 }) rfl rfl rfl hword
  rw [exec_transaction_accepted rfl rfl rfl (by simp [State.badDescriptor, State.aip])] at ht
  refine ⟨t, ht, hstep.trans ?_⟩
  cases ht
  rfl

/-- The cycle in which a byte command is issued (R172, R173). -/
theorem step_withByteWord (s : State) {w : BitVec 12} {i : Instr} (h : decodeByte w = .ok i) :
    ∃ t, exec i ((s.withByteWord w).issuedFrom i) = .next t
      ∧ step (s.withByteWord w) = .next ((s.withByteWord w).endCycle t) := by
  have hw := (encode_of_decodeByte h).2
  cases i with
  | sclLo | sclHi | sdaLo | sdaHi | sdaRd | hread | hwrite | transaction => cases hw
  | bInit => exact step_withByteWord_init s h
  | bStart =>
    rw [withByteWord_start s h]
    exact step_of_completes (q := .init) ⟨rfl, rfl, rfl, rfl, rfl⟩ rfl (complete_init rfl)
  | bStop =>
    rw [withByteWord_stop s h]
    exact step_of_completes (q := .wAddr) ⟨rfl, rfl, rfl, rfl, rfl⟩ rfl (completeWAddr_stop rfl rfl)
  | bOut data =>
    rw [withByteWord_out s h]
    exact step_of_completes (q := .wAddr) ⟨rfl, rfl, rfl, rfl, rfl⟩ rfl
      (completeWAddr_data rfl (first_lt_two s) (Memory.read_write_same _ _ _))
  | bIn last =>
    rw [withByteWord_in s h]
    exact step_of_completes (q := .rAddr) ⟨rfl, rfl, rfl, rfl, rfl⟩ rfl
      (completeRAddr_data rfl (by cases last <;> rfl))

/-- Settles O7, interface by interface: the request on the port, the line op the pc is put on, the command the completion
step or GO issues. -/
theorem placedWordIsTheNextOperation : Obligations.PlacedWordIsTheNextOperation := by
  intro s nbits w i h
  obtain ⟨c, hc, hp⟩ := withFetchWord_of_decodeTableWord h s
  rw [hp, format_of_decode hc]
  cases c with
  | l lop =>
    obtain ⟨hlop, ha, hb, hr⟩ := withLineWord_runs s hc
    exact step_of_atLineOp hr hb ha ((congrArg (decode ∘ .l) hlop).trans hc)
  | b bcmd => exact step_withByteWord s hc
  | h req =>
    intro p hq
    exact step_request rfl rfl ((Seq.engineIdle_iff _).mpr hq)
      ((congrArg decodeHost (withHostWord_hostWord s req)).trans (Except.ok.inj hc))

end Sys2Proof.Machine
end

section
/-! PROOFS. Host programs (R103, R104): a line as a cycle, the lines of `XFER` one after another, and `WAITDONE`. -/

namespace Sys2Proof.Machine

/-! ### A line as a cycle -/

/-- The request of a well-formed host operation is the one the port's decoder reads back (R95). -/
theorem decodeHost_hostCycle {i : Instr} (hi : i.wf = true) (hf : i.format = .host) (env : CycleIn) :
    (hostCycle i env).hSel = true ∧ decodeHost (hostCycle i env).hostWord = i := by
  have henc := decodeOfEncodeIsTheOperation i hi
  have hfmt := (format_encode i).trans hf
  unfold hostCycle
  cases he : encode i with
  | l | b =>
    rw [he] at hfmt
    cases hfmt
  | h req =>
    rw [he] at henc
    exact ⟨rfl, (congrArg decodeHost (request_fields req)).trans (Except.ok.inj henc)⟩

theorem hostCycle_rst (i : Instr) (env : CycleIn) : (hostCycle i env).rst = env.rst := by
  unfold hostCycle
  split <;> rfl

/-- With the engine at rest a program's line is its operation, with the clock moved. -/
theorem step_withPort {s : State} {i : Instr} {t : State} (rest : List HostLine) (hr : s.cur.rst = false)
    (hq : s.seq.engineIdle = true) (hi : i.wf = true) (hf : i.format = .host)
    (ht : exec i (s.withPort (.request i :: rest)) = .next t) :
    step (s.withPort (.request i :: rest)) = .next t.closeCycle := by
  obtain ⟨hsel, hword⟩ := decodeHost_hostCycle hi hf s.cur
  obtain ⟨t', ht', hstep⟩ := step_request (s := s.withPort (.request i :: rest)) ((hostCycle_rst i s.cur).trans hr) hsel hq
    hword
  cases ht.symm.trans ht'
  exact hstep

theorem runProgram_request {i : Instr} {rest : List HostLine} {s t : State} (n : Nat)
    (h : step (s.withPort (.request i :: rest)) = .next t) :
    runProgram (n + 1) (.request i :: rest) s = runProgram n rest t := by
  rw [runProgram, h]
  rfl

/-! ### The lines of `XFER` -/

/-- A store does not read the port and leaves it. -/
theorem hostStore_withPort (s : State) (line : HostLine) (rest : List HostLine) (idx : HostIdx) (v : Reg) :
    (s.withPort (line :: rest)).hostStore idx v = (s.hostStore idx v).withPort (line :: rest) := by
  unfold State.hostStore
  symm
  iterate 8 refine (apply_ite (State.withPort · (line :: rest)) _ _ _).trans (congrArg₂ _ rfl ?_)
  rfl

theorem engineIdle_of_ready {s : State} (h : s.ready) : s.seq.engineIdle = true := by
  obtain ⟨hq, -⟩ := h
  rw [hq]
  rfl

/-- A write line to an idle block is its store, in one cycle. -/
theorem runProgram_writeLine {s t : State} {idx : HostIdx} {v : Reg} (n : Nat) (rest : List HostLine) (h : s.ready)
    (hr : s.cur.rst = false) (hi : idx ≠ 0#10) (ht : s.hostStore idx v = t) :
    runProgram (n + 1) (writeLine idx v :: rest) s = runProgram n rest (t.later 1 0) := by
  have hq := engineIdle_of_ready h
  obtain ⟨-, -, hb, -⟩ := h
  have hwf : (Instr.hwrite idx v).wf = true := (hwrite_wf_iff idx v).mpr fun hgo => hi hgo.1
  have hexec := exec_hwrite_store (s := s.withPort (writeLine idx v :: rest)) hb hi (hostStore_withPort s _ rest idx v)
  refine (runProgram_request n (step_withPort rest hr hq hwf rfl hexec)).trans ?_
  rw [ht, State.later, List.drop_one]
  rfl

/-- A write line of a byte of `TXBUF`. -/
theorem runProgram_writeByte {s : State} {k : Nat} {w : Byte} (n : Nat) (rest : List HostLine) (hp : s.par.wf = true)
    (h : s.ready) (hr : s.cur.rst = false) (hk : k < s.par.txDepth) :
    runProgram (n + 1) (writeLine (BitVec.ofNat 10 (0x100 + k)) (w.setWidth 32) :: rest) s =
      runProgram n rest (({ s with txbuf := Memory.write s.txbuf k w } : State).later 1 0) := by
  have hidx := (bufferIdx_toNat hp).1 hk
  refine runProgram_writeLine n rest h hr (by bv_omega) ?_
  rw [hostStore_txbuf_index hidx hk, ← BitVec.setWidth_eq_extractLsb' (by decide), BitVec.setWidth_setWidth_of_le w (by decide),
    BitVec.setWidth_eq]

theorem noResetFor_later {s : State} {m n : Nat} (x : Reg) (h : s.noResetFor (m + n)) : (s.later m x).noResetFor n := by
  intro k hk
  rw [inputAt_later]
  exact h _ (by omega)

/-- The lines that load the payload load those bytes of `TXBUF` and nothing else. -/
theorem runProgram_writeBytes (ws : List Byte) (n k : Nat) (rest : List HostLine) (s : State) (hp : s.par.wf = true)
    (h : s.ready) (hr : s.noResetFor ws.length) (hk : k + ws.length ≤ s.par.txDepth) :
    ∃ m x, runProgram (n + ws.length) (writeBytes k ws ++ rest) s =
        runProgram n rest (({ s with txbuf := m } : State).later ws.length x)
      ∧ (∀ j (hj : j < ws.length), ({ s with txbuf := m } : State).txByte (k + j) = ws[j])
      ∧ ∀ j, j < k ∨ k + ws.length ≤ j → ({ s with txbuf := m } : State).txByte j = s.txByte j := by
  induction ws generalizing k s with
  | nil => exact ⟨s.txbuf, s.hRdata, rfl, nofun, fun _ _ => rfl⟩
  | cons w ws ih =>
    rw [List.length_cons] at hr hk
    have hbyte := txByte_of_write (s := s) (t := { s with txbuf := Memory.write s.txbuf k w }) rfl rfl
    have hr1 : (({ s with txbuf := Memory.write s.txbuf k w } : State).later 1 0).noResetFor ws.length :=
      noResetFor_later 0 (by rwa [Nat.add_comm])
    obtain ⟨m, x, hrun, hin, hout⟩ := ih (k + 1) (({ s with txbuf := Memory.write s.txbuf k w } : State).later 1 0) hp h hr1
      (show k + 1 + ws.length ≤ s.par.txDepth by omega)
    refine ⟨m, x, ?_, ?_, fun j hj => ?_⟩
    · refine (runProgram_writeByte (n + ws.length) _ hp h (hr 0 (Nat.succ_pos _)) (by omega)).trans (hrun.trans ?_)
      rw [List.length_cons, Nat.add_comm ws.length 1, ← later_later _ 1 ws.length 0 x]
      rfl
    · rintro (_ | j) hj
      · exact (hout k (.inl (Nat.lt_succ_self k))).trans ((hbyte k).trans (if_pos rfl))
      · rw [← Nat.add_assoc, Nat.add_right_comm]
        exact hin j (Nat.lt_of_succ_lt_succ hj)
    · rw [List.length_cons] at hj
      exact (hout j (by omega)).trans ((hbyte j).trans (if_neg (by omega)))

/-- What an accepted GO makes of the state, its read data apart (R172, R173). -/
def State.started (s : State) : State :=
  ({ s.clearResults with busy := true, a7 := s.slaveAddr } : State).entered .init 0

/-- A GO reads neither the clock nor the read data. -/
theorem started_later (s : State) (m n : Nat) (x y : Reg) :
    (s.later m x).started.later n y = s.started.later (m + n) y := by
  rw [← later_later s.started m n x y]
  rfl

/-- A GO leaves `TXBUF` (R75). -/
theorem started_txByte (s : State) (n : Nat) (x : Reg) (i : Nat) : (s.started.later n x).txByte i = s.txByte i :=
  txByte_congr rfl rfl i

theorem exec_transaction_started {s : State} (h : s.ready) (hd : s.badDescriptor = false) :
    exec .transaction s = .next { s.started with hRdata := 0 } := by
  obtain ⟨hq, hf, hb, -⟩ := h
  exact exec_transaction_accepted hb hq hf hd

/-- The line that ends `XFER` starts a legal transaction. -/
theorem runProgram_goLine {s : State} (n : Nat) (rest : List HostLine) (h : s.ready) (hr : s.cur.rst = false)
    (hd : s.badDescriptor = false) :
    runProgram (n + 1) (.request .transaction :: rest) s = runProgram n rest (s.started.later 1 0) := by
  have hexec := exec_transaction_started (s := s.withPort (.request .transaction :: rest)) h hd
  refine (runProgram_request n (step_withPort rest hr (engineIdle_of_ready h) rfl rfl hexec)).trans ?_
  rw [State.later, List.drop_one]
  rfl

/-- The lengths `XFER` loads, cut to the registers' bits (R35, R36). -/
def State.withLengths (s : State) (n : Nat) (rlen : Reg) : State :=
  { s with wlen := (BitVec.ofNat 32 n).setWidth 16, rlen := rlen.setWidth 16 }

/-- The lines that end `XFER` load the lengths and start the transaction, when it is legal. -/
theorem runProgram_goLines {s : State} {n : Nat} {rlen : Reg} (rest : List HostLine) (h : s.ready) (hr : s.noResetFor 3)
    (hd : (s.withLengths n rlen).badDescriptor = false) :
    runProgram 3 (goLines n rlen ++ rest) s = .next (rest, (s.withLengths n rlen).started.later 3 0) := by
  calc runProgram 3 (goLines n rlen ++ rest) s
      = runProgram 2 (writeLine 0x004#10 rlen :: .request .transaction :: rest)
          (({ s with wlen := (BitVec.ofNat 32 n).setWidth 16 } : State).later 1 0) :=
        runProgram_writeLine 2 _ h (hr 0 (by decide)) (by decide) rfl
    _ = runProgram 1 (.request .transaction :: rest) (((s.withLengths n rlen).later 1 0).later 1 0) :=
        runProgram_writeLine 1 _ h (hr 1 (by decide)) (by decide) rfl
    _ = runProgram 1 (.request .transaction :: rest) ((s.withLengths n rlen).later 2 0) := by rw [later_later]
    _ = runProgram 0 rest (((s.withLengths n rlen).later 2 0).started.later 1 0) :=
        runProgram_goLine 0 rest h (hr 2 (by decide)) hd
    _ = .next (rest, (s.withLengths n rlen).started.later 3 0) := by
        rw [started_later]
        rfl

/-- An explicit-address descriptor is legal when its lengths and its retries are (R172). -/
theorem legal_of_lengths {s : State} (ha : s.cfg.getLsbD 3 = false) (hw : s.wlen.toNat ≤ s.par.txDepth)
    (hr : s.rlen.toNat ≤ s.par.rxDepth) (ht : s.retry.toNat ≤ s.par.retryMax) : s.badDescriptor = false := by
  have ha' : s.aip = false := ha
  simp [State.badDescriptor, ha', hw, hr, ht]

/-- What the lines of `XFER` before the last make of the registers, with `m` in `TXBUF`. -/
def State.loaded (s : State) (addr : Reg) (m : Memory) (n : Nat) (rlen : Reg) : State :=
  ({ s with addr := addr.setWidth 7, txbuf := m } : State).withLengths n rlen

/-- The expansion of `XFER` loads the descriptor and starts the transaction, when it is legal. -/
theorem runProgram_xfer {s : State} {addr rlen : Reg} {ws : List Byte} (rest : List HostLine) (hp : s.par.wf = true)
    (h : s.ready) (hr : s.noResetFor (ws.length + 4)) (hn : ws.length ≤ s.par.txDepth)
    (hd : ∀ m, (s.loaded addr m ws.length rlen).badDescriptor = false) :
    ∃ m, runProgram (ws.length + 4) (expandXfer addr ws rlen ++ rest) s =
        .next (rest, (s.loaded addr m ws.length rlen).started.later (ws.length + 4) 0)
      ∧ (∀ j (hj : j < ws.length), (s.loaded addr m ws.length rlen).txByte j = ws[j])
      ∧ ∀ j, ws.length ≤ j → (s.loaded addr m ws.length rlen).txByte j = s.txByte j := by
  have hr1 : (({ s with addr := addr.setWidth 7 } : State).later 1 0).noResetFor ws.length :=
    noResetFor_later 0 fun k hk => hr k (by omega)
  obtain ⟨m, x, hrun, hin, hout⟩ := runProgram_writeBytes ws 3 0 (goLines ws.length rlen ++ rest)
    (({ s with addr := addr.setWidth 7 } : State).later 1 0) hp h hr1
    (show 0 + ws.length ≤ s.par.txDepth by omega)
  refine ⟨m, ?_, fun j hj => ?_, fun j hj => hout j (.inr (by omega))⟩
  · have hr2 : (({ s with addr := addr.setWidth 7, txbuf := m } : State).later (1 + ws.length) x).noResetFor 3 :=
      noResetFor_later x fun k hk => hr k (by omega)
    calc runProgram (ws.length + 4) (expandXfer addr ws rlen ++ rest) s
        = runProgram (3 + ws.length + 1) (writeLine 0x002#10 addr :: (writeBytes 0 ws ++ (goLines ws.length rlen ++ rest)))
            s := by
          rw [expandXfer, List.append_assoc, List.append_assoc, Nat.add_comm ws.length 4, Nat.add_right_comm 3]
          rfl
      _ = runProgram (3 + ws.length) (writeBytes 0 ws ++ (goLines ws.length rlen ++ rest))
            (({ s with addr := addr.setWidth 7 } : State).later 1 0) :=
          runProgram_writeLine _ _ h (hr 0 (Nat.succ_pos _)) (by decide) rfl
      _ = runProgram 3 (goLines ws.length rlen ++ rest)
            (({ s with addr := addr.setWidth 7, txbuf := m } : State).later (1 + ws.length) x) := by
          rw [hrun, ← later_later _ 1 ws.length 0 x]
          rfl
      _ = .next (rest, ((s.loaded addr m ws.length rlen).later (1 + ws.length) x).started.later 3 0) :=
          runProgram_goLines rest h hr2 (hd m)
      _ = .next (rest, (s.loaded addr m ws.length rlen).started.later (ws.length + 4) 0) := by
          rw [started_later, Nat.add_comm 1, Nat.add_assoc]
  · have := hin j hj
    rwa [Nat.zero_add] at this

/-! ### `WAITDONE` -/

/-- A cycle without reset always has a next state, with the port's data on `h_rdata` (R61, R246). -/
theorem step_hRdata {s : State} (hr : s.cur.rst = false) : ∃ t, step s = .next t ∧ t.hRdata = s.portData := by
  obtain ⟨r, hpart, hm⟩ := hostPart_move s
  obtain ⟨e, hengine, -⟩ := engineStep_move s
  exact ⟨_, step_of_parts hr hpart hengine, (joinWrites_hRdata s r e).trans hm.hRdata⟩

/-- A cycle of `WAITDONE` reads `STATUS`, and is the last one when `DONE` was set (R103, R104). -/
theorem runProgram_waitDone {s : State} (rest : List HostLine) (hr : s.cur.rst = false) :
    ∃ t, runProgram 1 (.waitDone :: rest) s = .next (if s.done = true then rest else .waitDone :: rest, t)
      ∧ t.hRdata = s.statusWord ∧ step (s.withPort (.waitDone :: rest)) = .next t := by
  obtain ⟨t, hstep, hdata⟩ := step_hRdata (s := s.withPort (.waitDone :: rest)) hr
  have hdata' : t.hRdata = s.statusWord := hdata
  obtain ⟨-, hdone, -⟩ := statusWord_bits s
  have hpoll : HostLine.waitDone.over t = s.done := by
    rw [← hdone, ← hdata']
    rfl
  refine ⟨t, ?_, hdata', hstep⟩
  rw [runProgram, hstep]
  dsimp only
  rw [runProgram, linesLeft, hpoll]

/-- Settles O56: the lines of `XFER` one after another, and `WAITDONE` in any state. -/
theorem xferProgramStartsTheTransaction : Obligations.XferProgramStartsTheTransaction := by
  refine ⟨fun s addr rlen ws rest hp h ha hn hrx ht hr => ?_, fun s rest hr => runProgram_waitDone rest hr⟩
  have haddr : addr.setWidth 7 = addr.extractLsb' 0 7 := BitVec.setWidth_eq_extractLsb' (by decide)
  have hrlen : rlen.setWidth 16 = rlen.extractLsb' 0 16 := BitVec.setWidth_eq_extractLsb' (by decide)
  have hwlen : ((BitVec.ofNat 32 ws.length).setWidth 16).toNat = ws.length := by
    obtain ⟨htx, -⟩ := depths_le_of_wf hp
    rw [BitVec.setWidth_ofNat_of_le (by decide), BitVec.toNat_ofNat]
    exact Nat.mod_eq_of_lt (by omega)
  rw [← hrlen] at hrx
  have hd (m : Memory) : (s.loaded addr m ws.length rlen).badDescriptor = false :=
    legal_of_lengths ha (hwlen.trans_le hn) hrx ht
  obtain ⟨m, hrun, hin, hout⟩ := runProgram_xfer rest hp h hr hn hd
  have ha7 : (s.loaded addr m ws.length rlen).slaveAddr = addr.extractLsb' 0 7 :=
    (if_neg (Bool.eq_false_iff.mp ha)).trans haddr
  exact ⟨_, hrun, rfl, rfl, rfl, rfl, ha7, hwlen, hrlen, fun k hk => (started_txByte _ _ _ k).trans (hin k hk),
    fun k hk => (started_txByte _ _ _ k).trans (hout k hk), rfl⟩

end Sys2Proof.Machine
end

section
/-! PROOFS. The line driver (R120 to R132): the five line ops, the tail as a countdown, and the cycles that move a
line. -/

namespace Sys2Proof.Machine

/-! ### The line ops one by one (R123 to R129) -/

/-- The tail is `2 * Q'`, without overflow (R122). -/
theorem tail_toNat (s : State) : s.tail.toNat = 2 * s.quarter := by
  unfold State.tail State.quarter State.skipDelay
  split_ifs
  · rfl
  · rw [BitVec.toNat_mul, BitVec.toNat_setWidth, BitVec.toNat_ofNat]
    omega

theorem tail_eq_quarter (s : State) : s.tail = BitVec.ofNat 17 (2 * s.quarter) := by
  rw [← tail_toNat, BitVec.ofNat_toNat, BitVec.setWidth_eq]

/-- Settles O10: the set op's line change and its tail, which is `2 * Q'`. -/
theorem sclLoDrivesSclLow : Obligations.SclLoDrivesSclLow :=
  ⟨rfl, fun s => by rw [← tail_eq_quarter]; rfl⟩

/-- Settles O11: `CFG.FORCE_SCL_HIGH` tells the active drive from the release. -/
theorem sclHiReleasesOrDrivesSclHigh : Obligations.SclHiReleasesOrDrivesSclHigh := by
  refine ⟨rfl, fun s => ?_⟩
  rw [← tail_eq_quarter, exec, execSclHi, setOp, State.forceSclHigh]
  split_ifs <;> rfl

/-- Settles O12: the set op's line change and its tail, which is `2 * Q'`. -/
theorem sdaLoDrivesSdaLow : Obligations.SdaLoDrivesSdaLow :=
  ⟨rfl, fun s => by rw [← tail_eq_quarter]; rfl⟩

/-- Settles O13: the release does not read `CFG.FORCE_SCL_HIGH`. -/
theorem sdaHiReleasesSda : Obligations.SdaHiReleasesSda :=
  ⟨rfl, fun s => by rw [← tail_eq_quarter]; rfl⟩

/-- Shifting a bit into a byte from the right doubles it, adds the bit and drops the carry (R152). -/
theorem shiftIn_eq (b : Byte) (level : Bool) :
    b.extractLsb' 0 7 ++ BitVec.ofBool level = BitVec.ofNat 8 (2 * b.toNat + level.toNat) := by
  apply BitVec.eq_of_toNat_eq
  have hl : level.toNat < 2 ^ 1 := Bool.toNat_lt level
  rw [BitVec.toNat_append, BitVec.extractLsb'_toNat, BitVec.toNat_ofBool, ← Nat.shiftLeft_add_eq_or_of_lt hl,
    Nat.shiftLeft_eq, BitVec.toNat_ofNat, Nat.shiftRight_zero]
  omega

/-- Settles O14: the sample is delivered to the one register the running command reads it into. -/
theorem sdaRdDeliversTheSample : Obligations.SdaRdDeliversTheSample := by
  refine ⟨rfl, fun s => ?_⟩
  rw [exec, execSdaRd, deliver_eq, shiftIn_eq, State.sample]
  cases s.cur.ioRdErr <;> simp

/-- An op that writes `g s` unless its write fails is idempotent where `g` is and its write does not fail again. -/
theorem exec_idempotent {i : Instr} {g : State → State}
    (hi : ∀ s : State, exec i s = .next (if s.cur.ioWrErr then s.fatalAbort else g s)) {s : State}
    (hw : s.cur.ioWrErr = false) (hcur : (g s).cur = s.cur) (hg : g (g s) = g s) :
    ∃ t, exec i s = .next t ∧ exec i t = .next t :=
  ⟨g s, by simp [hi, hw], by simp [hi, hcur, hw, hg]⟩

/-- Settles O17: none of the four line changes reads what it writes. -/
theorem setOpsAreIdempotent : Obligations.SetOpsAreIdempotent := by
  rintro s i (rfl | rfl | rfl | rfl) hw
  · exact exec_idempotent sclLoDrivesSclLow.2 hw rfl rfl
  · refine exec_idempotent sclHiReleasesOrDrivesSclHigh.2 hw ?_ ?_
    · split_ifs <;> rfl
    · cases hf : s.cfg.getLsbD 0 <;> simp only [hf, Bool.false_eq_true, if_false, if_true] <;> rfl
  · exact exec_idempotent sdaLoDrivesSdaLow.2 hw rfl rfl
  · exact exec_idempotent sdaHiReleasesSda.2 hw rfl rfl

/-! ### The tail (R122, R248) -/

/-- A cycle of the delay (R246). -/
theorem engineStep_delay {s : State} (hq : s.seq.command.isSome = true) (hd : s.dly ≠ 0) :
    engineStep s = .next { s with dly := s.dly - 1 } := by
  rw [engineStep_of_command hq, commandCycle, if_pos hd]

/-- While a transaction runs, a cycle of the delay moves `dly`, the read data and the clock. -/
theorem step_delay_busy {s : State} (hr : s.cur.rst = false) (hb : s.busy = true) (hq : s.seq.command.isSome = true)
    (hd : s.dly ≠ 0) : step s = .next (({ s with dly := s.dly - 1 } : State).later 1 s.portData) := by
  obtain ⟨e, he, -, hstep⟩ := step_eq_endCycle hr hb (Seq.engineIdle_of_command hq)
  cases (engineStep_delay hq hd).symm.trans he
  rw [hstep, State.endCycle, State.later, List.drop_one]

/-- Settles O19, by induction on the number of cycles. -/
theorem tailCountsDownAndNothingElse : Obligations.TailCountsDownAndNothingElse := by
  intro s n hq hb hn hr
  induction n generalizing s with
  | zero => exact ⟨s.hRdata, by simp [State.later]⟩
  | succ n ih =>
    have hd : s.dly ≠ 0 := by bv_omega
    have hstep := step_delay_busy (hr 0 n.succ_pos) hb hq hd
    have hn' : n ≤ (s.dly - 1).toNat := by bv_omega
    obtain ⟨x, hx⟩ := ih (({ s with dly := s.dly - 1 } : State).later 1 s.portData) hq hb hn'
      (noResetFor_later _ (by rwa [Nat.add_comm]))
    refine ⟨x, (run_succ_of_step hstep).trans (hx.trans ?_)⟩
    have hdly : s.dly - 1 - BitVec.ofNat 17 n = s.dly - BitVec.ofNat 17 (n + 1) := by bv_omega
    rw [Nat.add_comm n 1, ← later_later _ 1 n s.portData, Nat.add_comm 1 n, ← hdly]
    rfl

/-! ### The cycles that move a line (R131) -/

/-- SCL is driven as before. -/
def sameScl (s t : State) : Prop := t.sclDir = s.sclDir ∧ t.sclVal = s.sclVal

/-- Both lines are driven as before. -/
def sameLines (s t : State) : Prop := sameScl s t ∧ t.sdaDir = s.sdaDir

/-- The pc names a legal line op (R101). -/
theorem lop_legal (s : State) :
    s.lop = Lop.sclLo ∨ s.lop = Lop.sclHi ∨ s.lop = Lop.sdaLo ∨ s.lop = Lop.sdaHi ∨ s.lop = Lop.sdaRd :=
  uop_legal s.bop s.ustep.toNat s.bdata s.blast

/-- A line op moves one line at most, and pays the tail when it moves one (R123 to R127). -/
theorem lineOp_oneLine (s : State) :
    sameLines s s.lineOp ∨ ((sameScl s s.lineOp ∨ s.lineOp.sdaDir = s.sdaDir) ∧ s.lineOp.dly = s.tail) := by
  rcases lop_legal s with h | h | h | h | h
  · rw [lineOp_of_sclLo h]; exact .inr ⟨.inr rfl, rfl⟩
  · rw [lineOp_of_sclHi h]; right; split_ifs <;> exact ⟨.inr rfl, rfl⟩
  · rw [lineOp_of_sdaLo h]; exact .inr ⟨.inl ⟨rfl, rfl⟩, rfl⟩
  · rw [lineOp_of_sdaHi h]; exact .inr ⟨.inl ⟨rfl, rfl⟩, rfl⟩
  · rw [lineOp_of_sdaRd h, deliver_eq]; exact .inl ⟨⟨rfl, rfl⟩, rfl⟩

/-- But for the fatal abort, the engine moves a line by a line op only. -/
theorem EngineMove.lines {s e : State} (hm : EngineMove s e) (hw : s.writeFails = false) :
    sameLines s e ∨ (s.seq.command.isSome = true ∧ e = s.lineOp.afterUop) := by
  cases hm with
  | abort hq hd hu ha => simp [State.writeFails, atLineOp_of hq hd hu, ha] at hw
  | lineOp hq => exact .inr ⟨hq, rfl⟩
  | _ => exact .inl (by simp [sameLines, sameScl])

/-- A host request moves no line. -/
theorem HostMove.lines {s r : State} (hm : HostMove s r) : sameLines s r := by
  cases hm <;> simp [sameLines, sameScl]

/-- A cycle that moves a line moves one, and leaves the engine in the tail of the line op that did. -/
theorem step_oneLine {s t : State} (hr : s.cur.rst = false) (hw : s.writeFails = false) (hs : step s = .next t) :
    sameLines s t ∨
      ((sameScl s t ∨ t.sdaDir = s.sdaDir) ∧ t.seq.command.isSome = true ∧ t.dly.toNat = 2 * s.quarter) := by
  by_cases hq : s.seq.engineIdle = true
  · obtain ⟨r, hm, rfl⟩ := step_rest hr hq hs
    exact .inl hm.lines
  · obtain ⟨r, e, -, he, rfl⟩ := step_running hr (by simpa using hq) hs
    rcases he.lines hw with hl | ⟨hc, rfl⟩
    · exact .inl hl
    · refine (lineOp_oneLine s).imp id fun ⟨hone, hdly⟩ => ⟨hone, ?_, ?_⟩
      · simpa using hc
      · simpa [hdly] using tail_toNat s

/-- A cycle of the delay, whatever the host does in it: the engine moves `dly` alone. -/
theorem step_delay {s : State} (hr : s.cur.rst = false) (hq : s.seq.command.isSome = true) (hd : s.dly ≠ 0) :
    ∃ c a w r y x q m d, step s = .next ({ s with
      dly := s.dly - 1, cfg := c, addr := a, wlen := w, rlen := r, retry := y, wait := x, qdelay := q, txbuf := m
      hRdata := d } : State).closeCycle := by
  obtain ⟨r, hpart, -⟩ := hostPart_move s
  have hrun : ¬ s.seq.engineIdle = true := by simp [Seq.engineIdle_of_command hq]
  rw [step_of_parts hr hpart (engineStep_delay hq hd), joinWrites, if_neg hrun]
  exact ⟨_, _, _, _, _, _, _, _, _, rfl⟩

/-- The lines are stable in the tail (R131), by induction on the number of its cycles. -/
theorem run_delay_sameLines (n : Nat) (s : State) (hq : s.seq.command.isSome = true) (hn : n ≤ s.dly.toNat)
    (hr : s.noResetFor n) : ∃ u, run n s = .next u ∧ sameLines s u := by
  induction n generalizing s with
  | zero => exact ⟨s, rfl, ⟨rfl, rfl⟩, rfl⟩
  | succ n ih =>
    obtain ⟨_, _, _, _, _, _, _, _, _, hstep⟩ := step_delay (hr 0 n.succ_pos) hq (by bv_omega)
    rw [run_succ_of_step hstep]
    refine ih _ hq (by simp only [State.closeCycle_dly]; bv_omega) fun k hk => ?_
    rw [inputAt_closeCycle]
    exact hr (k + 1) (by omega)

/-- Settles O18: the cycle that moves a line leaves the engine in its tail, and the tail keeps both lines. -/
theorem oneLineChangesAndThenBothAreStable : Obligations.OneLineChangesAndThenBothAreStable := by
  intro s t hr hw hs
  rcases step_oneLine hr hw hs with ⟨⟨hd, hv⟩, he⟩ | ⟨hone, hq, hdly⟩
  · exact ⟨.inr he, by simp [hd, hv, he]⟩
  · refine ⟨hone, fun _ n hn hnr => ?_⟩
    obtain ⟨u, hu, ⟨hd, hv⟩, he⟩ := run_delay_sameLines n t hq (hn.trans_eq hdly.symm) hnr
    exact ⟨u, hu, hd, hv, he⟩

end Sys2Proof.Machine
end

section
/-! PROOFS. Where a cycle examines the bus (R128, R132): a cycle whose input is replaced by one that agrees with it there
ends in the same state. -/

namespace Sys2Proof.Machine

/-- The state with another input for the present cycle. -/
def State.withInput (s : State) (c : CycleIn) : State := { s with ins := c :: s.ins.tail }

/-- The next state with another input for the present cycle. -/
def withInputAfter (c : CycleIn) (o : Host.Outcome State Fault Refusal) : Host.Outcome State Fault Refusal :=
  andThen o fun e => .next (e.withInput c)

/-- The input `c` agrees with that of the present cycle on the reset and the host port, and on each bus input where the
cycle examines it. -/
structure AgreesWhereExamined (s : State) (c : CycleIn) : Prop where
  rst : c.rst = s.cur.rst
  hSel : c.hSel = s.cur.hSel
  hWe : c.hWe = s.cur.hWe
  hIdx : c.hIdx = s.cur.hIdx
  hWdata : c.hWdata = s.cur.hWdata
  set : s.setsLine = true → c.ioWrErr = s.cur.ioWrErr
  read : s.readsLine = true → c.ioRdErr = s.cur.ioRdErr ∧ c.sdaI = s.cur.sdaI
  lines : s.cur.hSel = true → s.cur.hWe = false → s.cur.hIdx = 0x00B#10 → c.sdaI = s.cur.sdaI

section
variable (s : State) (c : CycleIn)

/-! ### The host's part -/

theorem hostStore_withInput (idx : HostIdx) (v : Reg) :
    (s.withInput c).hostStore idx v = (s.hostStore idx v).withInput c := by
  unfold State.hostStore
  symm
  iterate 8 refine (apply_ite (State.withInput · c) _ _ _).trans (congrArg₂ _ rfl ?_)
  rfl

/-- A read sees the bus in `LINES` alone (R43). -/
theorem hostRead_withInput {idx : HostIdx} (h : idx = 0x00B#10 → c.sdaI = s.cur.sdaI) :
    (s.withInput c).hostRead idx = s.hostRead idx := by
  by_cases hidx : idx = 0x00B#10
  · have hlines : (s.withInput c).linesWord = s.linesWord := by
      have hcur : (s.withInput c).cur.sdaI = s.cur.sdaI := h hidx
      rw [State.linesWord, hcur]
      rfl
    subst hidx
    exact hlines
  · have hn : ¬ idx.toNat = 0x00B := fun hn => hidx (BitVec.eq_of_toNat_eq hn)
    simp only [State.hostRead, if_neg hn]
    rfl

theorem go_withInput : go (s.withInput c) = withInputAfter c (go s) := by
  unfold go
  rw [apply_ite (withInputAfter c), apply_ite (withInputAfter c)]
  rfl

theorem execTransaction_withInput : execTransaction (s.withInput c) = withInputAfter c (execTransaction s) := by
  unfold execTransaction
  rw [apply_ite (withInputAfter c), ← go_withInput]
  rfl

theorem execHwrite_withInput (idx : HostIdx) (v : Reg) :
    execHwrite idx v (s.withInput c) = withInputAfter c (execHwrite idx v s) := by
  have hstore : (s.withInput c).noReadData.hostStore idx v = (s.noReadData.hostStore idx v).withInput c :=
    hostStore_withInput s.noReadData c idx v
  unfold execHwrite
  rw [apply_ite (withInputAfter c), apply_ite (withInputAfter c), apply_ite (withInputAfter c), ← go_withInput, hstore]
  rfl

/-- The host's part of the cycle keeps to what it examines. -/
theorem hostPart_withInput {s : State} {c : CycleIn} (h : AgreesWhereExamined s c) :
    hostPart (s.withInput c) = withInputAfter c (hostPart s) := by
  have hcur : (s.withInput c).cur = c := rfl
  unfold hostPart
  rw [hcur, h.hSel]
  by_cases hs : s.cur.hSel = true
  · have hword : c.hostWord = s.cur.hostWord := by rw [CycleIn.hostWord, h.hWe, h.hIdx, h.hWdata]; rfl
    rw [if_pos hs, if_pos hs, hword]
    simp only [decode_host, decodeHost_hostWord]
    split_ifs with hw hgo
    · exact execTransaction_withInput s c
    · exact execHwrite_withInput s c _ _
    · exact exec_hread (hostRead_withInput s c (h.lines hs (by simpa using hw)))
  · rw [if_neg hs, if_neg hs]
    rfl

/-! ### The engine's part -/

theorem enter_withInput (q : Seq) (n : BitVec 9) : enter q n (s.withInput c) = withInputAfter c (enter q n s) := by
  rw [enter_eq, enter_eq]
  cases q <;> rfl

/-- A completion step examines no input (R132). -/
theorem complete_withInput : complete (s.withInput c) = withInputAfter c (complete s) := by
  have hseq : (s.withInput c).seq = s.seq := rfl
  unfold complete
  rw [hseq]
  cases s.seq with
  | init | wStart | rStart => exact enter_withInput s c _ _
  | wAddr | wData =>
    dsimp only [completeWAddr, completeWData]
    rw [apply_ite (withInputAfter c), apply_ite (withInputAfter c), ← enter_withInput, ← enter_withInput,
      ← enter_withInput]
    rfl
  | wStop | rnStop =>
    dsimp only [completeWStop, completeRnStop]
    rw [apply_ite (withInputAfter c), ← enter_withInput]
    rfl
  | rAddr | rData =>
    dsimp only [completeRAddr, completeRData]
    rw [apply_ite (withInputAfter c), ← enter_withInput, ← enter_withInput]
    rfl
  | idle | preWait | retryWait | fault | rStop | abStop => rfl

theorem waitCycle_withInput : waitCycle (s.withInput c) = withInputAfter c (waitCycle s) := by
  unfold waitCycle
  rw [apply_ite (withInputAfter c), ← enter_withInput]
  rfl

variable {s c}

/-- A set op's line change examines no input; an `SDA_RD` examines `io_rd_err` and `sda_i` (R127). -/
theorem lineOp_withInput (h : s.lop = Lop.sdaRd → c.ioRdErr = s.cur.ioRdErr ∧ c.sdaI = s.cur.sdaI) :
    (s.withInput c).lineOp = s.lineOp.withInput c := by
  rcases lop_legal s with hl | hl | hl | hl | hl
  · rw [lineOp_of_sclLo hl, lineOp_of_sclLo (s := s.withInput c) hl]; rfl
  · rw [lineOp_of_sclHi hl, lineOp_of_sclHi (s := s.withInput c) hl, apply_ite (State.withInput · c)]; rfl
  · rw [lineOp_of_sdaLo hl, lineOp_of_sdaLo (s := s.withInput c) hl]; rfl
  · rw [lineOp_of_sdaHi hl, lineOp_of_sdaHi (s := s.withInput c) hl]; rfl
  · obtain ⟨herr, hsda⟩ := h hl
    have hcur : (s.withInput c).cur = c := rfl
    rw [lineOp_of_sdaRd hl, lineOp_of_sdaRd (s := s.withInput c) hl, deliver_eq, deliver_eq, State.sample, State.sample,
      hcur, herr, hsda]
    rfl

/-- The micro-operation step keeps to what its line op examines. -/
theorem execUop_withInput (h : AgreesWhereExamined s c) (ha : s.atLineOp = true) :
    execUop (s.withInput c) = withInputAfter c (execUop s) := by
  have hline : (s.withInput c).lineOp = s.lineOp.withInput c :=
    lineOp_withInput fun hl => h.read (by rw [State.readsLine, ha, (lop_bit2_iff s).mpr hl]; rfl)
  have habort : (s.withInput c).uopAborts = s.uopAborts := by
    have hlop : (s.withInput c).lop = s.lop := rfl
    have hcur : (s.withInput c).cur = c := rfl
    rw [State.uopAborts, State.uopAborts, hlop, hcur]
    cases hb : s.lop.getLsbD 2 with
    | true => rfl
    | false => rw [h.set (by rw [State.setsLine, ha, hb]; rfl)]
  rw [execUop_eq, execUop_eq, habort, hline]
  split_ifs <;> rfl

/-- A cycle of a byte command keeps to what its line op examines; its delay and its completion examine no input. -/
theorem commandCycle_withInput (h : AgreesWhereExamined s c) (hq : s.seq.command.isSome = true) :
    commandCycle (s.withInput c) = withInputAfter c (commandCycle s) := by
  have hdly : (s.withInput c).dly = s.dly := rfl
  have hstep : (s.withInput c).ustep.toNat < (s.withInput c).bop.len ↔ s.ustep.toNat < s.bop.len := Iff.rfl
  unfold commandCycle
  simp only [hdly, hstep]
  split_ifs with hd hu
  · rfl
  · exact execUop_withInput h (atLineOp_of hq (not_not.mp hd) hu)
  · exact complete_withInput s c

/-- The engine's part of the cycle keeps to what it examines. -/
theorem engineStep_withInput (h : AgreesWhereExamined s c) :
    engineStep (s.withInput c) = withInputAfter c (engineStep s) := by
  have hseq : (s.withInput c).seq = s.seq := rfl
  unfold engineStep
  rw [hseq]
  cases hq : s.seq with
  | idle | fault => rfl
  | preWait | retryWait => exact waitCycle_withInput s c
  | _ => exact commandCycle_withInput h (by rw [hq]; rfl)

/-! ### The cycle -/

/-- The edge drops the input of the cycle it ends. -/
theorem closeCycle_joinWrites_withInput (r e : State) :
    (joinWrites (s.withInput c) (r.withInput c) (e.withInput c)).closeCycle = (joinWrites s r e).closeCycle := by
  have hseq : (s.withInput c).seq = s.seq := rfl
  unfold joinWrites
  rw [hseq]
  split_ifs <;> rfl

/-- A cycle keeps to what it examines. -/
theorem step_withInput (h : AgreesWhereExamined s c) : step (s.withInput c) = step s := by
  have hcur : (s.withInput c).cur = c := rfl
  unfold step
  rw [hcur, h.rst]
  split_ifs with hr
  · rfl
  · obtain ⟨r, hpart, -⟩ := hostPart_move s
    obtain ⟨e, hengine, -⟩ := engineStep_move s
    rw [cycleBody, cycleBody, hostPart_withInput h, engineStep_withInput h, hpart, hengine]
    exact congrArg Host.Outcome.next (closeCycle_joinWrites_withInput r e)

end

/-- Settles O16: each of the three inputs agrees with the other where the cycle examines it. -/
theorem busInputsMatterOnlyWhereExamined : Obligations.BusInputsMatterOnlyWhereExamined := by
  intro s c l b hs
  have hcur : s.cur = c := by rw [State.cur, hs]; rfl
  have hins (c' : CycleIn) : { s with ins := c' :: l } = s.withInput c' := by rw [State.withInput, hs]; rfl
  refine ⟨fun hset => ?_, fun hread => ?_, fun hread hlines => ?_⟩ <;> subst hcur <;> rw [hins]
  · exact step_withInput ⟨rfl, rfl, rfl, rfl, rfl, by simp [hset], fun _ => ⟨rfl, rfl⟩, fun _ _ _ => rfl⟩
  · exact step_withInput ⟨rfl, rfl, rfl, rfl, rfl, fun _ => rfl, by simp [hread], fun _ _ _ => rfl⟩
  · exact step_withInput ⟨rfl, rfl, rfl, rfl, rfl, fun _ => rfl, by simp [hread],
      fun h1 h2 h3 => absurd ⟨h1, h2, h3⟩ hlines⟩

end Sys2Proof.Machine
end

section
/-! PROOFS. The micro-programs of the byte commands (R141), and the cycle of one of their line ops (R142). -/

namespace Sys2Proof.Machine

/-! ### Where a micro-program reads -/

/-- The steps of a byte command that sample SDA (R149, R152). -/
def Bop.readsAt (b : Bop) (u : Nat) : Bool :=
  match b with
  | .init | .start | .stop => false
  | .out => u == 34
  | .inp => decide (1 ≤ u ∧ u ≤ 24 ∧ u % 3 = 2)

/-- Whatever the operands, the reads of a micro-program stand at the same steps. -/
theorem uop_eq_sdaRd_iff {b : Bop} {u : Nat} (hu : u < b.len) (d : Byte) (l : Bool) :
    uop b u d l = Lop.sdaRd ↔ b.readsAt u = true := by
  cases b with
  | init | start | stop => simp only [uop, Bop.readsAt]; split_ifs <;> decide
  | out =>
    rw [Bop.readsAt, beq_iff_eq]
    exact ⟨uop_out_sdaRd hu, by rintro rfl; rfl⟩
  | inp =>
    rw [Bop.readsAt, decide_eq_true_iff]
    rcases uop_inp_cases hu d l with ⟨hr, hop⟩ | ⟨-, -, hm, hop⟩ | ⟨h1, hr, hm, hop⟩ | ⟨-, -, hm, hop⟩ | ⟨hr, hop⟩
      | ⟨hr, hop⟩ | ⟨hr, hop⟩ <;> rw [hop]
    case inr.inr.inl => exact iff_of_true rfl ⟨h1, hr, hm⟩
    case inl | inr.inr.inr.inr.inl => exact iff_of_false (sdaOp_ne_sdaRd _) (by omega)
    all_goals exact iff_of_false (by decide) (by omega)

/-- The reads of a micro-program, counted by step. -/
theorem count_sdaRd (b : Bop) (d : Byte) (l : Bool) :
    ((List.range b.len).map (fun u => uop b u d l)).count Lop.sdaRd = (List.range b.len).countP b.readsAt := by
  rw [List.count_eq_countP, List.countP_map]
  refine List.countP_congr fun u hu => ?_
  rw [Function.comp_apply, beq_iff_eq, uop_eq_sdaRd_iff (List.mem_range.mp hu)]

/-- Settles O20: the lists by evaluation, the reads by the steps they stand at. -/
theorem microProgramsAreTheTraces : Obligations.MicroProgramsAreTheTraces := by
  unfold Obligations.MicroProgramsAreTheTraces
  intro trace data last
  exact ⟨rfl, rfl, rfl, rfl, rfl, ⟨(count_sdaRd .out data last).trans (by decide), rfl⟩,
    (count_sdaRd .inp data last).trans (by decide), rfl⟩

/-! ### The cycle of a line op (R142) -/

/-- The operation decoded from the code the pc names is the line op, or the fatal abort where its write fails (R128). -/
theorem exec_lop {s : State} {i : Instr} (hi : decode (.l s.lop) = .ok i) :
    exec i s = .next (if s.uopAborts then s.fatalAbort else s.lineOp) := by
  unfold State.uopAborts
  rcases lop_legal s with h | h | h | h | h <;> rw [h] at hi ⊢ <;> cases hi
  · rw [lineOp_of_sclLo h]; rfl
  · rw [lineOp_of_sclHi h, exec, execSclHi, setOp]; cases s.forceSclHigh <;> rfl
  · rw [lineOp_of_sdaLo h]; rfl
  · rw [lineOp_of_sdaHi h]; rfl
  · rw [lineOp_of_sdaRd h]; rfl

/-- Bit 2 of the code tells `SDA_RD` from the set ops, as the decoder does (R91, R92). -/
theorem uopAborts_iff {s : State} {i : Instr} (hi : decode (.l s.lop) = .ok i) :
    s.uopAborts = true ↔ i ≠ .sdaRd ∧ s.cur.ioWrErr = true := by
  have hrd : i = .sdaRd ↔ s.lop = Lop.sdaRd := by
    rcases lop_legal s with h | h | h | h | h <;> rw [h] at hi ⊢ <;> cases hi <;> decide
  rw [State.uopAborts, Bool.and_eq_true, Bool.not_eq_true', ← Bool.not_eq_true, lop_bit2_iff, Ne, hrd]

/-- Settles O5: the decoder reads the line op the pc names, which leaves `bop`, `ustep` and `START_OPEN` to the byte
engine. -/
theorem lineOpCycleRunsTheDecodedOperation : Obligations.LineOpCycleRunsTheDecodedOperation := by
  intro s hr hb ha
  obtain ⟨i, hi⟩ : ∃ i, decode (.l s.lop) = .ok i := by
    rcases lop_legal s with h | h | h | h | h <;> rw [h] <;> exact ⟨_, rfl⟩
  obtain ⟨t, ht, hstep⟩ := step_of_atLineOp hr hb ha hi
  refine ⟨i, t, hi, ht, hstep.trans ?_⟩
  have hexec := exec_lop hi
  by_cases habort : s.uopAborts = true
  · rw [if_pos habort, if_pos ((uopAborts_iff hi).mp habort)]
  · rw [if_neg habort, if_neg ((uopAborts_iff hi).not.mp habort)]
    rw [ht, if_neg habort] at hexec
    cases hexec
    simp [State.afterUop]

end Sys2Proof.Machine
end

section
/-! PROOFS. A byte command as a run (R140, R156, R249): its line ops one after another, each with its tail. -/

namespace Sys2Proof.Machine

/-! ### What a line op of a byte command leaves -/

/-- The state when the line op the pc names, executed `k` cycles ahead, is over, its tail with it: what the line op and the
byte engine write. The delay, the read data and the clock are as before. -/
def State.opDone (s : State) (k : Nat) : State :=
  { (s.later k s.hRdata).lineOp.afterUop with dly := s.dly, hRdata := s.hRdata, ins := s.ins, cycle := s.cycle }

section
variable {s : State} {k : Nat}

theorem opDone_sclLo (h : s.lop = Lop.sclLo) :
    s.opDone k = { s.afterUop with sclDir := .out, sclVal := false } := by
  rw [State.opDone, lineOp_of_sclLo (s := s.later k s.hRdata) h]
  rfl

theorem opDone_sclHi (h : s.lop = Lop.sclHi) :
    s.opDone k = { s.afterUop with
      sclDir := if s.cfg.getLsbD 0 then .out else .inp
      sclVal := if s.cfg.getLsbD 0 then true else s.sclVal } := by
  have hf : (s.later k s.hRdata).forceSclHigh = s.cfg.getLsbD 0 := rfl
  rw [State.opDone, lineOp_of_sclHi (s := s.later k s.hRdata) h, hf]
  cases s.cfg.getLsbD 0 <;> rfl

theorem opDone_sda {level : Bool} (h : s.lop = sdaOp level) :
    s.opDone k = { s.afterUop with sdaDir := levelDir level } := by
  cases level
  · rw [State.opDone, lineOp_of_sdaLo (s := s.later k s.hRdata) h]
    rfl
  · rw [State.opDone, lineOp_of_sdaHi (s := s.later k s.hRdata) h]
    rfl

/-- The input of a cycle ahead. -/
theorem cur_later (s : State) (k : Nat) (x : Reg) : (s.later k x).cur = s.inputAt k := by
  rw [← inputAt_zero, inputAt_later, Nat.add_zero]

theorem opDone_sdaRd (h : s.lop = Lop.sdaRd) :
    s.opDone k = { s.afterUop with
      ack := if s.bop = .out then !s.sampleAt k else s.ack
      bdata := if s.bop = .inp then s.bdata.extractLsb' 0 7 ++ BitVec.ofBool (s.sampleAt k) else s.bdata
      rderrSeen := s.rderrSeen || (s.inputAt k).ioRdErr } := by
  rw [State.opDone, lineOp_of_sdaRd (s := s.later k s.hRdata) h, deliver_eq, State.sample, cur_later]
  rfl

/-- A set op writes lines only (R123 to R126). -/
theorem opDone_of_set (h : s.lop ≠ Lop.sdaRd) :
    ∃ d v e, s.opDone k = { s.afterUop with sclDir := d, sclVal := v, sdaDir := e } := by
  obtain ⟨_, _, _, _, hl⟩ := lineOp_of_set (s := s.later k s.hRdata) h
  rw [State.opDone, hl]
  exact ⟨_, _, _, rfl⟩

/-- A line op writes the lines, its sample's registers, `START_OPEN` and `ustep`; it writes nothing else (R142). -/
theorem opDone_frame (s : State) (k : Nat) : ∃ d v e b a r o,
    s.opDone k = { s with
      sclDir := d, sclVal := v, sdaDir := e, bdata := b, ack := a, rderrSeen := r, startOpen := o
      ustep := s.ustep + 1 } := by
  obtain ⟨_, _, _, _, _, _, _, hl⟩ := lineOp_frame (s.later k s.hRdata)
  rw [State.opDone, hl]
  exact ⟨_, _, _, _, _, _, _, rfl⟩

/-- `B_IN` alone changes `bdata` (R152). -/
theorem opDone_bdata (h : s.bop ≠ .inp) : (s.opDone k).bdata = s.bdata :=
  lineOp_bdata (s := s.later k s.hRdata) h

/-- A line op executed `k` cycles ahead, with the clock moved on to it. -/
theorem lineOp_later (s : State) (k : Nat) (x : Reg) :
    { (s.later k x).lineOp.afterUop with dly := s.dly } = (s.opDone k).later k x := by
  rcases lop_legal s with h | h | h | h | h
  · rw [opDone_sclLo h, lineOp_of_sclLo (s := s.later k x) h]; rfl
  · have hf : (s.later k x).forceSclHigh = s.cfg.getLsbD 0 := rfl
    rw [opDone_sclHi h, lineOp_of_sclHi (s := s.later k x) h, hf]
    cases s.cfg.getLsbD 0 <;> rfl
  · rw [opDone_sda (level := false) h, lineOp_of_sdaLo (s := s.later k x) h]; rfl
  · rw [opDone_sda (level := true) h, lineOp_of_sdaHi (s := s.later k x) h]; rfl
  · rw [opDone_sdaRd h, lineOp_of_sdaRd (s := s.later k x) h, deliver_eq, State.sample, cur_later]; rfl

end

/-! ### The cycles of a line op -/

/-- A set op pays the tail, a read does not (R122, R127, R249). -/
theorem lineOp_cycles (s : State) : 1 + s.lineOp.dly.toNat = if s.lop = Lop.sdaRd then 1 else s.opCycles := by
  have hset (hdly : s.lineOp.dly = s.tail) : 1 + s.lineOp.dly.toNat = s.opCycles := by
    rw [hdly, tail_toNat, State.opCycles]
  rcases lop_legal s with h | h | h | h | h
  · rw [hset (by rw [lineOp_of_sclLo h]), if_neg (by rw [h]; decide)]
  · rw [hset (by rw [lineOp_of_sclHi h]; split_ifs <;> rfl), if_neg (by rw [h]; decide)]
  · rw [hset (by rw [lineOp_of_sdaLo h]), if_neg (by rw [h]; decide)]
  · rw [hset (by rw [lineOp_of_sdaHi h]), if_neg (by rw [h]; decide)]
  · rw [lineOp_of_sdaRd h, if_pos h]; rfl

/-- The line ops of `m + n` cycles are those of the `m` cycles, then those of the `n` cycles from where they end. -/
theorem transcript_add {m : Nat} {s t : State} (n : Nat) (h : run m s = .next t) :
    transcript (m + n) s = transcript m s ++ transcript n t := by
  induction m generalizing s with
  | zero =>
    cases h
    rw [Nat.zero_add]
    rfl
  | succ m ih =>
    rw [run_succ] at h
    obtain ⟨u, hu, hrun⟩ := andThen_eq_next h
    rw [Nat.succ_add, transcript, transcript, hu]
    dsimp only
    rw [ih hrun, List.append_assoc]

/-- No line op executes in the tail of another. -/
theorem transcript_delay {n : Nat} {s : State} (hq : s.seq.command.isSome = true) (hb : s.busy = true)
    (hn : n ≤ s.dly.toNat) (hr : s.noResetFor n) : transcript n s = [] := by
  induction n generalizing s with
  | zero => rfl
  | succ n ih =>
    have hd : s.dly ≠ 0 := by bv_omega
    have hrecord : s.opRecord = [] := by
      rw [State.opRecord, if_neg]
      rintro ⟨-, ha, -⟩
      simp only [State.atLineOp, Bool.and_eq_true, beq_iff_eq] at ha
      exact hd ha.1.2
    have hn' : n ≤ (s.dly - 1).toNat := by bv_omega
    rw [transcript, step_delay_busy (hr 0 n.succ_pos) hb hq hd, hrecord]
    exact ih hq hb hn' (noResetFor_later _ (by rwa [Nat.add_comm]))

section
variable {s : State} (hq : s.seq.command.isSome = true) (hb : s.busy = true) (hd : s.dly = 0)
  (hu : s.ustep.toNat < s.bop.len)
include hq hb hd hu

/-- The cycle a line op executes in, when its write does not fail (R142). -/
theorem step_lineOp (hr : s.cur.rst = false) (hw : s.cur.ioWrErr = false) :
    step s = .next (s.lineOp.afterUop.later 1 s.portData) := by
  have ha : s.uopAborts = false := by rw [State.uopAborts, hw, Bool.and_false]
  obtain ⟨e, he, -, hstep⟩ := step_eq_endCycle hr hb (Seq.engineIdle_of_command hq)
  rw [engineStep_of_command hq, commandCycle, if_neg (not_not.mpr hd), if_pos hu, execUop_eq, ha] at he
  cases he
  rw [hstep]
  simp [State.endCycle, State.later]

/-- A line op run to the end of its tail (R122, R142). -/
theorem run_lineOp (h : s.quietFor (1 + s.lineOp.dly.toNat)) :
    (∃ x, run (1 + s.lineOp.dly.toNat) s = .next (({ s.lineOp.afterUop with dly := 0 } : State).later
      (1 + s.lineOp.dly.toNat) x))
    ∧ lineOpTrace (1 + s.lineOp.dly.toNat) s = [s.lop] := by
  obtain ⟨hr, hw⟩ := h 0 (by omega)
  have hstep := run_succ_of_step (n := 0) (step_lineOp hq hb hd hu hr hw)
  rw [run_zero] at hstep
  generalize ht : s.lineOp.afterUop.later 1 s.portData = t at hstep
  have hq' : t.seq.command.isSome = true := by rw [← ht]; simpa [State.later] using hq
  have hb' : t.busy = true := by rw [← ht]; simpa [State.later] using hb
  have hn : s.lineOp.dly.toNat ≤ t.dly.toNat := by rw [← ht]; exact le_rfl
  have hr' : t.noResetFor s.lineOp.dly.toNat := fun k hk => by
    rw [← ht, inputAt_later, inputAt_congr (t := s) (by simp) (by simp)]
    exact (h _ (by omega)).1
  constructor
  · obtain ⟨x, hx⟩ := tailCountsDownAndNothingElse t _ hq' hb' hn hr'
    refine ⟨x, ?_⟩
    have hdly : s.lineOp.dly - BitVec.ofNat 17 s.lineOp.dly.toNat = 0 := by
      rw [BitVec.ofNat_toNat, BitVec.setWidth_eq]
      exact BitVec.sub_self _
    rw [run_add, hstep, andThen_next, hx, ← ht, ← later_later _ 1 _ s.portData, ← hdly]
    rfl
  · have hrecord : s.opRecord = [(s.lop, if s.lop = Lop.sdaRd then some (s.sampleAt 0) else none)] := by
      have ha : s.uopAborts = false := by rw [State.uopAborts, ← inputAt_zero, hw, Bool.and_false]
      exact if_pos ⟨hr, atLineOp_of hq hd hu, ha⟩
    rw [lineOpTrace, transcript_add _ hstep, transcript_delay hq' hb' hn hr', transcript, hrecord,
      step_lineOp hq hb hd hu hr hw]
    rfl

end

end Sys2Proof.Machine
end

section
/-! PROOFS. A byte command run to any of its steps, and to its end: the line ops of its list and no other (R156). -/

namespace Sys2Proof.Machine

/-- A busy cycle at the first line op of the byte command its state runs. -/
structure CommandStart (s : State) : Prop where
  command : s.seq.command = some s.bop
  busy : s.busy = true
  dly : s.dly = 0
  ustep : s.ustep = 0

/-- The cycles from the start of the byte command to its line op at index `u` (R249). -/
def State.opTime (s : State) : Nat → Nat
  | 0 => 0
  | u + 1 => s.opTime u + if s.bop.readsAt u then 1 else s.opCycles

/-- The state before the line op at index `u` of the byte command that starts in `s`, with the clock of `s`. -/
def State.beforeOp (s : State) : Nat → State
  | 0 => s
  | u + 1 => (s.beforeOp u).opDone (s.opTime u)

/-! ### What the steps of a byte command leave alone -/

theorem beforeOp_frame (s : State) (u : Nat) : ∃ d v e b a r o,
    s.beforeOp u = { s with
      sclDir := d, sclVal := v, sdaDir := e, bdata := b, ack := a, rderrSeen := r, startOpen := o
      ustep := s.ustep + BitVec.ofNat 6 u } := by
  induction u with
  | zero => exact ⟨_, _, _, _, _, _, _, by rw [BitVec.add_zero]; rfl⟩
  | succ u ih =>
    obtain ⟨_, _, _, _, _, _, _, hs⟩ := ih
    obtain ⟨_, _, _, _, _, _, _, hop⟩ := opDone_frame (s.beforeOp u) (s.opTime u)
    have hu : s.ustep + BitVec.ofNat 6 u + 1 = s.ustep + BitVec.ofNat 6 (u + 1) := by
      rw [BitVec.ofNat_add, ← BitVec.add_assoc]
      rfl
    rw [State.beforeOp, hop, hs, ← hu]
    exact ⟨_, _, _, _, _, _, _, rfl⟩

section
variable (s : State) (u : Nat)

@[simp] theorem beforeOp_seq : (s.beforeOp u).seq = s.seq := by
  obtain ⟨_, _, _, _, _, _, _, h⟩ := beforeOp_frame s u; rw [h]
@[simp] theorem beforeOp_bop : (s.beforeOp u).bop = s.bop := by
  obtain ⟨_, _, _, _, _, _, _, h⟩ := beforeOp_frame s u; rw [h]
@[simp] theorem beforeOp_blast : (s.beforeOp u).blast = s.blast := by
  obtain ⟨_, _, _, _, _, _, _, h⟩ := beforeOp_frame s u; rw [h]
@[simp] theorem beforeOp_busy : (s.beforeOp u).busy = s.busy := by
  obtain ⟨_, _, _, _, _, _, _, h⟩ := beforeOp_frame s u; rw [h]
@[simp] theorem beforeOp_dly : (s.beforeOp u).dly = s.dly := by
  obtain ⟨_, _, _, _, _, _, _, h⟩ := beforeOp_frame s u; rw [h]
@[simp] theorem beforeOp_opCycles : (s.beforeOp u).opCycles = s.opCycles := by
  obtain ⟨_, _, _, _, _, _, _, h⟩ := beforeOp_frame s u; rw [h]; rfl
@[simp] theorem beforeOp_ins : (s.beforeOp u).ins = s.ins := by
  obtain ⟨_, _, _, _, _, _, _, h⟩ := beforeOp_frame s u; rw [h]
@[simp] theorem beforeOp_cycle : (s.beforeOp u).cycle = s.cycle := by
  obtain ⟨_, _, _, _, _, _, _, h⟩ := beforeOp_frame s u; rw [h]

theorem beforeOp_bdata (h : s.bop ≠ .inp) : (s.beforeOp u).bdata = s.bdata := by
  induction u with
  | zero => rfl
  | succ u ih => rw [State.beforeOp, opDone_bdata (by simpa using h), ih]

end

section
variable {s : State} (h : CommandStart s)
include h

/-- Every line op has its place: `ustep` counts them (R27). -/
theorem CommandStart.ustep_toNat {u : Nat} (hu : u ≤ s.bop.len) : (s.beforeOp u).ustep.toNat = u := by
  have hlen : s.bop.len ≤ 36 := by cases s.bop <;> decide
  obtain ⟨_, _, _, _, _, _, _, hs⟩ := beforeOp_frame s u
  rw [hs]
  simp only [h.ustep, BitVec.ofNat_eq_ofNat, BitVec.zero_add, BitVec.toNat_ofNat]
  omega

/-- The line op at index `u` is the list's, whatever has been read before it. -/
theorem CommandStart.lop {u : Nat} (hu : u ≤ s.bop.len) : (s.beforeOp u).lop = uop s.bop u s.bdata s.blast := by
  rw [State.lop, h.ustep_toNat hu, beforeOp_bop, beforeOp_blast]
  by_cases hb : s.bop = .inp
  · rw [hb]; rfl
  · rw [beforeOp_bdata s u hb]

/-- The line op at index `u`, run from where those before it end: one line op of the list, and its cycles (R142, R249). -/
theorem CommandStart.run_op {u : Nat} {x : Reg} {t : State} (hu : u < s.bop.len) (hq : s.quietFor (s.opTime (u + 1)))
    (ht : (s.beforeOp u).later (s.opTime u) x = t) :
    ∃ n y, s.opTime (u + 1) = s.opTime u + n ∧ run n t = .next ((s.beforeOp (u + 1)).later (s.opTime u + n) y)
      ∧ lineOpTrace n t = [uop s.bop u s.bdata s.blast] := by
  have hlop : t.lop = uop s.bop u s.bdata s.blast := by rw [← ht]; exact h.lop hu.le
  have hseq : t.seq = s.seq := by rw [← ht]; exact beforeOp_seq s u
  have hbusy : t.busy = true := by rw [← ht]; exact (beforeOp_busy s u).trans h.busy
  have hdly : t.dly = 0 := by rw [← ht]; exact (beforeOp_dly s u).trans h.dly
  have hstep : t.ustep.toNat < t.bop.len := by
    rw [← ht]
    exact (h.ustep_toNat hu.le).trans_lt ((beforeOp_bop s u).symm ▸ hu)
  have htime : s.opTime (u + 1) = s.opTime u + (1 + t.lineOp.dly.toNat) := by
    have hcycles : t.opCycles = s.opCycles := by rw [← ht]; exact beforeOp_opCycles s u
    rw [lineOp_cycles, hlop, hcycles, State.opTime]
    simp only [uop_eq_sdaRd_iff hu]
  have hquiet : t.quietFor (1 + t.lineOp.dly.toNat) := fun k hk => by
    rw [← ht, inputAt_later, inputAt_congr (t := s) (beforeOp_ins s u) (beforeOp_cycle s u)]
    exact hq _ (by omega)
  have hcommand : t.seq.command.isSome = true := by rw [hseq, h.command]; rfl
  obtain ⟨⟨y, hrun⟩, htrace⟩ := run_lineOp hcommand hbusy hdly hstep hquiet
  refine ⟨_, y, htime, ?_, htrace.trans (by rw [hlop])⟩
  have hlater := lineOp_later (s.beforeOp u) (s.opTime u) x
  rw [ht, beforeOp_dly, h.dly] at hlater
  rw [hrun, hlater, later_later, State.beforeOp]

/-- A byte command run to its line op at index `u`, and the line ops it executed (R140, R249). -/
theorem CommandStart.run_beforeOp {u : Nat} (hu : u ≤ s.bop.len) (hq : s.quietFor (s.opTime u)) :
    (∃ x, run (s.opTime u) s = .next ((s.beforeOp u).later (s.opTime u) x))
    ∧ lineOpTrace (s.opTime u) s = (List.range u).map (fun v => uop s.bop v s.bdata s.blast) := by
  induction u with
  | zero => exact ⟨⟨s.hRdata, rfl⟩, rfl⟩
  | succ u ih =>
    obtain ⟨⟨x, hrun⟩, htrace⟩ := ih (by omega) fun k hk => hq k (hk.trans_le (Nat.le_add_right _ _))
    obtain ⟨n, y, htime, hop, hopTrace⟩ := h.run_op hu hq rfl
    rw [htime]
    constructor
    · exact ⟨y, by rw [run_add, hrun, andThen_next, hop]⟩
    · rw [lineOpTrace] at htrace hopTrace
      rw [lineOpTrace, transcript_add _ hrun, List.map_append, htrace, hopTrace, List.range_succ, List.map_append]
      rfl

end

/-- The whole list takes `setOps * D + reads` cycles (R249). -/
theorem opTime_len (s : State) : s.opTime s.bop.len = s.commandCycles s.bop := by
  rw [State.commandCycles]
  cases hb : s.bop <;> simp [State.opTime, Bop.len, Bop.readsAt, Bop.setOps, Bop.reads, hb] <;> omega

/-- Settles O27: the run to the step after the last line op, with the line ops it executed. -/
theorem byteCommandExecutesExactlyItsList : Obligations.ByteCommandExecutesExactlyItsList := by
  rintro s b hc rfl hu hd hb hq
  have h : CommandStart s := ⟨hc, hb, hd, hu⟩
  rw [← opTime_len] at hq ⊢
  obtain ⟨⟨x, hrun⟩, htrace⟩ := h.run_beforeOp le_rfl hq
  refine ⟨htrace, _, hrun, ?_, beforeOp_seq s _, beforeOp_bop s _⟩
  simp [State.completing, State.later, hc, hd, h.ustep_toNat le_rfl]

end Sys2Proof.Machine
end

section
/-! PROOFS. What each byte command, run to its end, leaves (R143 to R153). -/

namespace Sys2Proof.Machine

/-- A byte command run to its end leaves the state after the last line op of its list, `n` cycles later. -/
theorem CommandStart.run_end {s t : State} {n : Nat} (h : CommandStart s) (hn : s.commandCycles s.bop = n)
    (hq : s.quietFor n) (ht : s.beforeOp s.bop.len = t) : ∃ x, run n s = .next (t.later n x) := by
  subst hn ht
  rw [← opTime_len] at hq ⊢
  exact (h.run_beforeOp le_rfl hq).1

/-- From before a line op to before the next. -/
theorem beforeOp_succ {s m t : State} {u : Nat} (h : s.beforeOp u = m) (hop : m.opDone (s.opTime u) = t) :
    s.beforeOp (u + 1) = t := by
  rw [State.beforeOp, h, hop]

/-! ### The commands without data (R143, R145, R146) -/

/-- The state with the command at step `u`, SCL and SDA driven so, and a START open or not. -/
def State.atOp (s : State) (u : BitVec 6) (sclDir : Dir) (sclVal : Bool) (sdaDir : Dir) (startOpen : Bool) : State :=
  { s with ustep := u, sclDir := sclDir, sclVal := sclVal, sdaDir := sdaDir, startOpen := startOpen }

/-- SCL raised from low is released or driven high as `CFG.FORCE_SCL_HIGH` has it (R124). -/
theorem opDone_sclHi_of_low {s : State} {k : Nat} (h : s.lop = Lop.sclHi) (hv : s.sclVal = false) :
    s.opDone k = { s.afterUop with
      sclDir := if s.cfg.getLsbD 0 then .out else .inp
      sclVal := s.cfg.getLsbD 0 } := by
  rw [opDone_sclHi h, hv]
  cases s.cfg.getLsbD 0 <;> rfl

/-- `B_INIT` is `DC` (R143). -/
theorem beforeOp_bInit (s : State) :
    let t := s.startCommand .init false 0
    t.beforeOp 2 = t.atOp 2 (if s.cfg.getLsbD 0 then .out else .inp) (if s.cfg.getLsbD 0 then true else s.sclVal) .inp
      s.startOpen := by
  intro t
  have h1 : t.beforeOp 1 = t.atOp 1 s.sclDir s.sclVal .inp s.startOpen := opDone_sda (level := true) rfl
  exact beforeOp_succ h1 (opDone_sclHi rfl)

/-- `B_START` is `cDCd` (R145). -/
theorem beforeOp_bStart (s : State) :
    let t := s.startCommand .start false 0
    t.beforeOp 4 = t.atOp 4 (if s.cfg.getLsbD 0 then .out else .inp) (s.cfg.getLsbD 0) .out true := by
  intro t
  have h1 : t.beforeOp 1 = t.atOp 1 .out false s.sdaDir s.startOpen := opDone_sclLo rfl
  have h2 : t.beforeOp 2 = t.atOp 2 .out false .inp s.startOpen := beforeOp_succ h1 (opDone_sda (level := true) rfl)
  have h3 : t.beforeOp 3 = t.atOp 3 (if s.cfg.getLsbD 0 then .out else .inp) (s.cfg.getLsbD 0) .inp s.startOpen :=
    beforeOp_succ h2 (opDone_sclHi_of_low rfl rfl)
  exact beforeOp_succ h3 (opDone_sda (level := false) rfl)

/-- `B_STOP` is `cdCD` (R146). -/
theorem beforeOp_bStop (s : State) :
    let t := s.startCommand .stop false 0
    t.beforeOp 4 = t.atOp 4 (if s.cfg.getLsbD 0 then .out else .inp) (s.cfg.getLsbD 0) .inp false := by
  intro t
  have h1 : t.beforeOp 1 = t.atOp 1 .out false s.sdaDir s.startOpen := opDone_sclLo rfl
  have h2 : t.beforeOp 2 = t.atOp 2 .out false .out s.startOpen := beforeOp_succ h1 (opDone_sda (level := false) rfl)
  have h3 : t.beforeOp 3 = t.atOp 3 (if s.cfg.getLsbD 0 then .out else .inp) (s.cfg.getLsbD 0) .out s.startOpen :=
    beforeOp_succ h2 (opDone_sclHi_of_low rfl rfl)
  exact beforeOp_succ h3 (opDone_sda (level := true) rfl)

/-- Settles O22: the two line ops of `B_INIT`. -/
theorem bInitReleasesTheBus : Obligations.BInitReleasesTheBus := by
  intro s hc hb hd hq
  have h : CommandStart (s.startCommand .init false 0) := ⟨hc, hb, hd, rfl⟩
  obtain ⟨x, hx⟩ := h.run_end rfl hq (beforeOp_bInit s)
  exact ⟨_, x, rfl, hx⟩

/-- Settles O23: the four line ops of `B_START`. -/
theorem bStartOpensTheBus : Obligations.BStartOpensTheBus := by
  intro s hc hb hd hq
  have h : CommandStart (s.startCommand .start false 0) := ⟨hc, hb, hd, rfl⟩
  obtain ⟨x, hx⟩ := h.run_end rfl hq (beforeOp_bStart s)
  exact ⟨_, x, rfl, hx⟩

/-- Settles O24: the four line ops of `B_STOP`. -/
theorem bStopFreesTheBus : Obligations.BStopFreesTheBus := by
  intro s hc hb hd hq
  have h : CommandStart (s.startCommand .stop false 0) := ⟨hc, hb, hd, rfl⟩
  obtain ⟨x, hx⟩ := h.run_end rfl hq (beforeOp_bStop s)
  exact ⟨_, x, rfl, hx⟩

/-! ### `B_OUT` (R147 to R149) -/

section
variable {s : State}

/-- The byte engine's own writes in a command that opens and closes no bus. -/
theorem afterUop_of_other (h1 : s.bop ≠ .start) (h2 : s.bop ≠ .stop) :
    s.afterUop = { s with ustep := s.ustep + 1 } := by
  rw [State.afterUop, if_neg fun h => h1 h.1, if_neg fun h => h2 h.1]

/-- Up to its one read `B_OUT` takes `D` cycles for each line op. -/
theorem opTime_out (hb : s.bop = .out) {u : Nat} (hu : u ≤ 34) : s.opTime u = u * s.opCycles := by
  induction u with
  | zero => exact (Nat.zero_mul _).symm
  | succ u ih =>
    have hset : ¬ Bop.readsAt .out u = true := by simp [Bop.readsAt]; omega
    rw [State.opTime, ih (by omega), hb, if_neg hset, Nat.succ_mul]

/-- The bits of `data` move lines only (R147). -/
theorem CommandStart.beforeOp_out (h : CommandStart s) (hb : s.bop = .out) {u : Nat} (hu : u ≤ 34) : ∃ d v e,
    s.beforeOp u = s.atOp (BitVec.ofNat 6 u) d v e s.startOpen := by
  induction u with
  | zero =>
    refine ⟨s.sclDir, s.sclVal, s.sdaDir, ?_⟩
    rw [State.atOp, show BitVec.ofNat 6 0 = s.ustep from h.ustep.symm]
    rfl
  | succ u ih =>
    have hu' : u < s.bop.len := by rw [hb]; exact Nat.lt_trans hu (by decide)
    have hset : (s.beforeOp u).lop ≠ Lop.sdaRd := by
      rw [h.lop hu'.le, Ne, uop_eq_sdaRd_iff hu', hb]
      simp [Bop.readsAt]
      omega
    obtain ⟨_, _, _, hop⟩ := opDone_of_set (k := s.opTime u) hset
    obtain ⟨_, _, _, hs⟩ := ih (by omega)
    rw [State.beforeOp, hop, afterUop_of_other (by simp [hb]) (by simp [hb]), hs, BitVec.ofNat_add]
    exact ⟨_, _, _, rfl⟩

/-- The acknowledge slot: SDA released, SCL high, the sample, SCL low (R148, R149). -/
theorem CommandStart.beforeOp_bOut {data : Byte} (h : CommandStart (s.startCommand .out false data)) :
    let t := s.startCommand .out false data
    t.beforeOp 36 = { t.atOp 36 .out false .inp s.startOpen with
      ack := !s.sampleAt (34 * s.opCycles)
      rderrSeen := s.rderrSeen || (s.inputAt (34 * s.opCycles)).ioRdErr } := by
  intro t
  obtain ⟨d, v, e, h32⟩ := h.beforeOp_out rfl (u := 32) (by decide)
  have h33 : t.beforeOp 33 = t.atOp 33 d v .inp s.startOpen := beforeOp_succ h32 (opDone_sda (level := true) rfl)
  obtain ⟨d', v', h34⟩ : ∃ d v, t.beforeOp 34 = t.atOp 34 d v .inp s.startOpen :=
    ⟨_, _, beforeOp_succ h33 (opDone_sclHi rfl)⟩
  have h35 : t.beforeOp 35 = { t.atOp 35 d' v' .inp s.startOpen with
      ack := !s.sampleAt (34 * s.opCycles)
      rderrSeen := s.rderrSeen || (s.inputAt (34 * s.opCycles)).ioRdErr } := by
    rw [beforeOp_succ h34 (opDone_sdaRd rfl), opTime_out rfl le_rfl]
    rfl
  exact beforeOp_succ h35 (opDone_sclLo rfl)

end

/-- Settles O25: the bits of `data` leave nothing but the lines, the acknowledge slot the rest. -/
theorem bOutRecordsTheAcknowledge : Obligations.BOutRecordsTheAcknowledge := by
  intro s data hc hb hd hq
  have h : CommandStart (s.startCommand .out false data) := ⟨hc, hb, hd, rfl⟩
  obtain ⟨x, hx⟩ := h.run_end rfl hq h.beforeOp_bOut
  exact ⟨_, x, rfl, hx⟩

/-! ### `B_IN` (R150 to R152) -/

/-- Bits shifted into a byte one after another (R152). -/
def shiftedIn (f : Nat → Bool) : Nat → Byte
  | 0 => 0
  | i + 1 => (shiftedIn f i).extractLsb' 0 7 ++ BitVec.ofBool (f i)

/-- Of eight bits shifted in, the first is the most significant (R99). -/
theorem shiftedIn_eight (f : Nat → Bool) : shiftedIn f 8 = byteOf f := by
  simp only [shiftedIn, byteOf]
  generalize f 0 = a, f 1 = b, f 2 = c, f 3 = d, f 4 = e, f 5 = g, f 6 = h, f 7 = i
  revert a b c d e g h i
  decide

/-- The line ops of bit `i` of `B_IN` are `Crc` (R150). -/
theorem uop_inp_bit {i : Nat} (hi : i < 8) (d : Byte) (l : Bool) :
    uop .inp (3 * i + 1) d l = Lop.sclHi ∧ uop .inp (3 * i + 2) d l = Lop.sdaRd
      ∧ uop .inp (3 * i + 3) d l = Lop.sclLo := by
  interval_cases i <;> exact ⟨rfl, rfl, rfl⟩

/-- The cycle in which `B_IN` reads its bit `i`, counted from its start (R249). -/
def State.readTime (s : State) (i : Nat) : Nat := 2 * s.opCycles + i * (2 * s.opCycles + 1)

/-- What `bdata` holds when `i` bits have been read (R152). -/
def State.bitsRead (s : State) (i : Nat) : Byte := shiftedIn (fun j => s.sampleAt (s.readTime j)) i

/-- What `RDERR_SEEN` is when `i` bits have been read (R127). -/
def State.readErrors (s : State) (i : Nat) : Bool :=
  s.rderrSeen || (List.range i).any (fun j => (s.inputAt (s.readTime j)).ioRdErr)

theorem readErrors_succ (s : State) (i : Nat) :
    s.readErrors (i + 1) = (s.readErrors i || (s.inputAt (s.readTime i)).ioRdErr) := by
  simp [State.readErrors, List.range_succ, Bool.or_assoc]

/-- `B_IN` at step `u` with `i` bits read, SCL and SDA driven so. -/
def State.received (s : State) (i : Nat) (u : BitVec 6) (sclDir : Dir) (sclVal : Bool) (sdaDir : Dir) : State :=
  { s.atOp u sclDir sclVal sdaDir s.startOpen with bdata := s.bitsRead i, rderrSeen := s.readErrors i }

section
variable {s : State}

/-- The bits of `B_IN` begin one set op after its start and take `2 * D + 1` cycles each. -/
theorem opTime_inp (hb : s.bop = .inp) {i : Nat} (hi : i ≤ 8) :
    s.opTime (3 * i + 1) + s.opCycles = s.readTime i := by
  rw [State.readTime]
  induction i with
  | zero => simp [State.opTime, hb, Bop.readsAt]; omega
  | succ i ih =>
    have h1 : ¬ Bop.readsAt .inp (3 * i + 1) = true := by simp [Bop.readsAt]
    have h2 : Bop.readsAt .inp (3 * i + 2) = true := by simp [Bop.readsAt]; omega
    have h3 : ¬ Bop.readsAt .inp (3 * i + 3) = true := by simp [Bop.readsAt]
    rw [Nat.mul_succ, State.opTime, State.opTime, State.opTime, hb, if_neg h1, if_pos h2, if_neg h3, Nat.succ_mul i]
    have := ih (by omega)
    omega

theorem opTime_inp_read (hb : s.bop = .inp) {i : Nat} (hi : i < 8) : s.opTime (3 * i + 2) = s.readTime i := by
  have h1 : ¬ Bop.readsAt .inp (3 * i + 1) = true := by simp [Bop.readsAt]
  rw [← opTime_inp hb hi.le, State.opTime, hb, if_neg h1]

/-- Each bit of `B_IN` raises SCL, shifts its sample in and lowers SCL (R150, R152). -/
theorem CommandStart.beforeOp_inp {last : Bool} (h : CommandStart (s.startCommand .inp last 0)) {i : Nat} (hi : i ≤ 8) :
    let t := s.startCommand .inp last 0
    ∃ d v, t.beforeOp (3 * i + 1) = t.received i (BitVec.ofNat 6 (3 * i + 1)) d v .inp := by
  intro t
  induction i with
  | zero =>
    refine ⟨s.sclDir, s.sclVal, (beforeOp_succ (rfl : t.beforeOp 0 = t) (opDone_sda (level := true) rfl)).trans ?_⟩
    rw [State.received, State.readErrors, List.range_zero, List.any_nil, Bool.or_false]
    rfl
  | succ i ih =>
    obtain ⟨d, v, h1⟩ := ih (by omega)
    have hlop {u : Nat} {op : BitVec 3} (hu : u ≤ 28) (hop : uop .inp u 0 last = op) : (t.beforeOp u).lop = op :=
      (h.lop hu).trans hop
    obtain ⟨hhi, hrd, hlo⟩ := uop_inp_bit (i := i) (by omega) 0 last
    obtain ⟨d', v', h2⟩ : ∃ d v, t.beforeOp (3 * i + 2) = t.received i (BitVec.ofNat 6 (3 * i + 1) + 1) d v .inp :=
      ⟨_, _, beforeOp_succ h1 (opDone_sclHi (h1 ▸ hlop (by omega) hhi))⟩
    have h3 : t.beforeOp (3 * i + 3) = t.received (i + 1) (BitVec.ofNat 6 (3 * i + 1) + 1 + 1) d' v' .inp := by
      rw [State.received, readErrors_succ, beforeOp_succ h2 (opDone_sdaRd (h2 ▸ hlop (by omega) hrd)),
        opTime_inp_read rfl (by omega)]
      rfl
    have hstep : BitVec.ofNat 6 (3 * (i + 1) + 1) = BitVec.ofNat 6 (3 * i + 1) + 1 + 1 + 1 := by bv_omega
    rw [hstep]
    exact ⟨.out, false, beforeOp_succ h3 (opDone_sclLo (h3 ▸ hlop (by omega) hlo))⟩

/-- The master's acknowledge: SDA driven low or released, a pulse of SCL (R151). -/
theorem CommandStart.beforeOp_bIn {last : Bool} (h : CommandStart (s.startCommand .inp last 0)) :
    let t := s.startCommand .inp last 0
    t.beforeOp 28 = t.received 8 28 .out false (levelDir last) := by
  intro t
  obtain ⟨d, v, h25⟩ := h.beforeOp_inp (i := 8) le_rfl
  have h26 : t.beforeOp 26 = t.received 8 26 d v (levelDir last) :=
    beforeOp_succ h25 (opDone_sda (level := last) rfl)
  obtain ⟨d', v', h27⟩ : ∃ d v, t.beforeOp 27 = t.received 8 27 d v (levelDir last) :=
    ⟨_, _, beforeOp_succ h26 (opDone_sclHi rfl)⟩
  exact beforeOp_succ h27 (opDone_sclLo rfl)

end

/-- Settles O26: the eight bits, then the master's acknowledge. -/
theorem bInReceivesTheByte : Obligations.BInReceivesTheByte := by
  intro s last hc hb hd hq
  have h : CommandStart (s.startCommand .inp last 0) := ⟨hc, hb, hd, rfl⟩
  obtain ⟨x, hx⟩ := h.run_end rfl hq h.beforeOp_bIn
  refine ⟨_, x, rfl, hx.trans ?_⟩
  rw [State.received, State.bitsRead, shiftedIn_eight]
  rfl

end Sys2Proof.Machine
end

section
/-! PROOFS. Where SDA moves (R154): with SCL low, but for the START and the STOP. -/

namespace Sys2Proof.Machine

/-- In a cycle from `s` to `t` SDA stays, or SCL is low before and after it. -/
def SdaQuiet (s t : State) : Prop := t.sdaDir = s.sdaDir ∨ (s.sclLow ∧ t.sclLow)

/-- The line op of this cycle is the one that opens the bus (R145). -/
def startStep (s : State) : Prop := s.atLineOp = true ∧ s.bop = .start ∧ s.ustep = 3

/-- The line op of this cycle is the one that frees the bus (R146). -/
def stopStep (s : State) : Prop := s.atLineOp = true ∧ s.bop = .stop ∧ s.ustep = 3

theorem not_sclHigh_of_sclLow {s : State} (h : s.sclLow) : ¬ s.sclHigh := by
  obtain ⟨hd, hv⟩ := h
  simp [State.sclHigh, hd, hv]

/-- Unless SDA moves on a high SCL there is neither a START nor a STOP condition (R12). -/
theorem SdaQuiet.no_condition {s t : State} (h : SdaQuiet s t) : ¬ padStart s t ∧ ¬ padStop s t := by
  rcases h with h | ⟨h, -⟩
  · constructor <;> rintro ⟨-, -, hs, ht⟩ <;> rw [hs, ht] at h <;> cases h
  · exact ⟨fun ⟨hs, _⟩ => not_sclHigh_of_sclLow h hs, fun ⟨hs, _⟩ => not_sclHigh_of_sclLow h hs⟩

theorem padStart.not_padStop {s t : State} (h : padStart s t) : ¬ padStop s t := by
  rintro ⟨-, -, hs, -⟩
  obtain ⟨-, -, hs', -⟩ := h
  rw [hs] at hs'
  cases hs'

theorem startStep.not_stopStep {s : State} (h : startStep s) : ¬ stopStep s := by
  rintro ⟨-, hb, -⟩
  obtain ⟨-, hb', -⟩ := h
  rw [hb] at hb'
  cases hb'

/-! ### The line ops that set SDA -/

/-- The steps at which a micro-program sets SDA (R141). -/
theorem uop_eq_sdaOp {b : Bop} {u : Nat} (hu : u < b.len) {d : Byte} {l level : Bool} (h : uop b u d l = sdaOp level) :
    (b = .init ∧ level = true) ∨ ((b = .start ∨ b = .stop) ∧ (u = 1 ∨ u = 3))
      ∨ (b = .out ∧ 1 ≤ u ∧ u ≤ 32 ∧ u % 4 ≠ 3) ∨ (b = .inp ∧ (u = 0 ∨ u = 25)) := by
  have hhi : ¬ Lop.sclHi = sdaOp level := by cases level <;> decide
  have hlo : ¬ Lop.sclLo = sdaOp level := by cases level <;> decide
  have hrd : ¬ Lop.sdaRd = sdaOp level := (sdaOp_ne_sdaRd level).symm
  cases b with
  | init =>
    by_cases h0 : u = 0
    · cases level
      · subst h0; cases h
      · exact .inl ⟨rfl, rfl⟩
    · exact absurd ((if_neg h0).symm.trans h) hhi
  | start | stop =>
    have hu : u < 4 := hu
    obtain rfl | rfl | rfl | rfl : u = 0 ∨ u = 1 ∨ u = 2 ∨ u = 3 := by omega
    · exact absurd h hlo
    · exact .inr (.inl ⟨by simp, .inl rfl⟩)
    · exact absurd h hhi
    · exact .inr (.inl ⟨by simp, .inr rfl⟩)
  | out =>
    right; right; left
    rcases uop_out_cases hu d l with ⟨-, -, hop⟩ | ⟨hr, hm, -⟩ | ⟨-, -, hop⟩ | ⟨-, -, hop⟩ | ⟨rfl, -⟩ | ⟨-, hop⟩ | ⟨-, hop⟩
      | ⟨-, hop⟩
    case inr.inl => exact ⟨rfl, by omega, by omega, by omega⟩
    case inr.inr.inr.inr.inl => exact ⟨rfl, by decide⟩
    all_goals rw [hop] at h; contradiction
  | inp =>
    right; right; right
    rcases uop_inp_cases hu d l with ⟨rfl, -⟩ | ⟨-, -, -, hop⟩ | ⟨-, -, -, hop⟩ | ⟨-, -, -, hop⟩ | ⟨rfl, -⟩ | ⟨-, hop⟩
      | ⟨-, hop⟩
    case inl => exact ⟨rfl, .inl rfl⟩
    case inr.inr.inr.inr.inl => exact ⟨rfl, .inr rfl⟩
    all_goals rw [hop] at h; contradiction

/-- A line op is quiet where each SDA op is on a low SCL, or finds SDA as it sets it. -/
theorem sdaQuiet_lineOp {s : State} (h : ∀ level, s.lop = sdaOp level → s.sclLow ∨ s.sdaDir = levelDir level) :
    SdaQuiet s s.lineOp.afterUop := by
  have sda {level : Bool} (hl : s.lop = sdaOp level) : SdaQuiet s s.lineOp.afterUop := by
    obtain ⟨-, hlow, hd⟩ := afterUop_sda hl
    exact (h level hl).elim (fun hs => .inr ⟨hs, hlow.mpr hs⟩) fun hs => .inl (hd.trans hs.symm)
  rcases lop_legal s with hl | hl | hl | hl | hl
  · exact .inl (afterUop_sclLo hl).2
  · exact .inl (afterUop_sclHi hl).2
  · exact sda (level := false) hl
  · exact sda (level := true) hl
  · exact .inl (afterUop_sdaRd hl).2.2

/-! ### The line ops in a state that meets the invariant -/

/-- The lines before step `ustep` of the byte command in `bop` (R153). -/
def commandLines (s : State) : Prop :=
  match s.bop with
  | .init => s.sclHigh ∧ s.sdaDir = .inp ∧ s.startOpen = false
  | .start => startLines s s.ustep.toNat
  | .stop => stopLines s s.ustep.toNat
  | .out => outLines s s.ustep.toNat
  | .inp => inLines s s.ustep.toNat

section
variable {s : State} (h : Inv s) (ha : s.atLineOp = true)
include h ha

/-- The command of the line op is the one in `bop`, and the lines are those before its step. -/
theorem Inv.atLineOp_lines : s.ustep.toNat < s.bop.len ∧ commandLines s := by
  simp only [State.atLineOp, Bool.and_eq_true, beq_iff_eq, decide_eq_true_eq] at ha
  obtain ⟨⟨hq, -⟩, hu⟩ := ha
  obtain ⟨b, hb⟩ := Option.isSome_iff_exists.mp hq
  obtain ⟨hbop, -⟩ := h.control.command b hb
  have hl := h.lines
  rw [LineInv, hb] at hl
  rw [commandLines, hbop]
  rw [hbop] at hu
  exact ⟨hu, by cases b <;> exact hl⟩

/-- But for the START and the STOP, SDA moves on a low SCL only. -/
theorem Inv.sdaQuiet (h1 : ¬ startStep s) (h2 : ¬ stopStep s) : SdaQuiet s s.lineOp.afterUop := by
  obtain ⟨hu, hl⟩ := h.atLineOp_lines ha
  refine sdaQuiet_lineOp fun level hop => ?_
  have h3 (hb : s.bop = .start ∨ s.bop = .stop) : s.ustep.toNat ≠ 3 := fun h3 =>
    hb.elim (fun hb => h1 ⟨ha, hb, (ustep_eq_three_iff s).mpr h3⟩) fun hb => h2 ⟨ha, hb, (ustep_eq_three_iff s).mpr h3⟩
  rcases uop_eq_sdaOp hu hop with ⟨hb, rfl⟩ | ⟨hb, hstep⟩ | ⟨hb, hlo, hhi, hm⟩ | ⟨hb, hstep⟩
  · rw [commandLines, hb] at hl
    obtain ⟨-, hsda, -⟩ := hl
    exact .inr hsda
  · have hone := hstep.resolve_right (h3 hb)
    left
    rcases hb with hb | hb <;> rw [commandLines, hb] at hl
    · obtain ⟨-, hlow, -⟩ := hl
      exact (hlow (.inl hone)).1
    · obtain ⟨hlow, -⟩ := hl
      exact (hlow (.inr hone)).1
  · rw [commandLines, hb] at hl
    obtain ⟨-, -, -, hlow, -⟩ := hl
    exact .inl (hlow hlo hhi hm)
  · rw [commandLines, hb] at hl
    obtain ⟨-, hfirst, -, hlow, -⟩ := hl
    exact .inl (hstep.elim hfirst fun h25 => hlow (by omega) (by omega) (by omega))

end

/-- Step 3 of `B_START` makes a START condition (R145). -/
theorem Inv.start_condition {s : State} (h : Inv s) (hs : startStep s) :
    padStart s s.lineOp.afterUop ∧ s.lineOp.afterUop.startOpen = true := by
  obtain ⟨ha, hb, h3⟩ := hs
  rw [ustep_eq_three_iff] at h3
  obtain ⟨-, hl⟩ := h.atLineOp_lines ha
  rw [commandLines, hb] at hl
  obtain ⟨-, -, hbefore, -⟩ := hl
  obtain ⟨hscl, hsda, -⟩ := hbefore h3
  obtain ⟨hhigh, -, hd⟩ := afterUop_sda (level := false) (s := s) (by rw [State.lop, hb, h3]; rfl)
  exact ⟨⟨hscl, hhigh.mpr hscl, hsda, hd⟩, (afterUop_startOpen_start hb).trans (if_pos h3)⟩

/-- Step 3 of `B_STOP` makes a STOP condition (R146). -/
theorem Inv.stop_condition {s : State} (h : Inv s) (hs : stopStep s) :
    padStop s s.lineOp.afterUop ∧ s.lineOp.afterUop.startOpen = false := by
  obtain ⟨ha, hb, h3⟩ := hs
  rw [ustep_eq_three_iff] at h3
  obtain ⟨-, hl⟩ := h.atLineOp_lines ha
  rw [commandLines, hb] at hl
  obtain ⟨-, -, hbefore, -⟩ := hl
  obtain ⟨hscl, hsda, -⟩ := hbefore h3
  obtain ⟨hhigh, -, hd⟩ := afterUop_sda (level := true) (s := s) (by rw [State.lop, hb, h3]; rfl)
  exact ⟨⟨hscl, hhigh.mpr hscl, hsda, hd⟩, (afterUop_startOpen_stop hb).trans (if_pos h3)⟩

/-- Every sample is taken with SCL high and SDA released (R154). -/
theorem Inv.readsLine {s : State} (h : Inv s) (hr : s.readsLine = true) : s.sclHigh ∧ s.sdaDir = .inp := by
  rw [State.readsLine, Bool.and_eq_true, lop_bit2_iff] at hr
  obtain ⟨ha, hop⟩ := hr
  obtain ⟨hu, hl⟩ := h.atLineOp_lines ha
  have hread := (uop_eq_sdaRd_iff hu s.bdata s.blast).mp hop
  rw [commandLines] at hl
  cases hb : s.bop <;> rw [hb] at hread hl
  case init | start | stop => cases hread
  case out =>
    obtain ⟨-, -, -, -, -, -, h34, -⟩ := hl
    exact h34 (.inl (by simpa [Bop.readsAt] using hread))
  case inp =>
    simp only [Bop.readsAt, decide_eq_true_eq] at hread
    obtain ⟨hlo, hhi, hm⟩ := hread
    obtain ⟨-, -, hsda, -, hhigh, -⟩ := hl
    exact ⟨hhigh hlo hhi (by omega), hsda hlo (by omega)⟩

/-! ### The cycle -/

/-- The engine moves a line by a line op only, its failing write apart. -/
theorem EngineMove.sdaDir {s e : State} (hm : EngineMove s e) (hw : s.writeFails = false) :
    (s.atLineOp = false ∧ e.sdaDir = s.sdaDir) ∨ (s.atLineOp = true ∧ e = s.lineOp.afterUop) := by
  cases hm with
  | abort hq hd hu ha => simp [State.writeFails, atLineOp_of hq hd hu, ha] at hw
  | lineOp hq hd hu => exact .inr ⟨atLineOp_of hq hd hu, rfl⟩
  | rest hq | waitCount hq | waitEnd hq =>
    exact .inl ⟨by rcases hq with hq | hq <;> simp [State.atLineOp, hq, Seq.command], by simp⟩
  | delay _ hd => exact .inl ⟨by simp only [State.atLineOp, beq_eq_false_iff_ne.mpr hd, Bool.and_false, Bool.false_and], rfl⟩
  | _ => exact .inl ⟨by simp_all only [State.atLineOp, decide_false, Bool.and_false], by simp⟩

/-- A cycle moves SDA quietly, or is the START or the STOP. -/
theorem step_sda_cases {s t : State} (h : Inv s) (hr : s.cur.rst = false) (hw : s.writeFails = false)
    (hs : step s = .next t) :
    (SdaQuiet s t ∧ ¬ startStep s ∧ ¬ stopStep s) ∨ (startStep s ∧ padStart s t ∧ t.startOpen = true)
      ∨ (stopStep s ∧ padStop s t ∧ t.startOpen = false) := by
  by_cases hq : s.seq.engineIdle = true
  · obtain ⟨r, hm, rfl⟩ := step_rest hr hq hs
    have ha : s.atLineOp = false := by simp [State.atLineOp, Seq.command_of_engineIdle hq]
    exact .inl ⟨.inl hm.lines.2, by simp [startStep, ha], by simp [stopStep, ha]⟩
  · obtain ⟨r, e, -, hm, rfl⟩ := step_running hr (by simpa using hq) hs
    rcases hm.sdaDir hw with ⟨ha, hd⟩ | ⟨ha, rfl⟩
    · exact .inl ⟨.inl hd, by simp [startStep, ha], by simp [stopStep, ha]⟩
    · by_cases h1 : startStep s
      · exact .inr (.inl ⟨h1, h.start_condition h1⟩)
      · by_cases h2 : stopStep s
        · exact .inr (.inr ⟨h2, h.stop_condition h2⟩)
        · exact .inl ⟨h.sdaQuiet ha h1 h2, h1, h2⟩

/-- Settles O42: the three kinds of cycle exclude each other. -/
theorem sdaChangesOnlyWhileSclIsLow : Obligations.SdaChangesOnlyWhileSclIsLow := by
  intro s t h hr hw hs
  have hone : startStep s → ¬ stopStep s := startStep.not_stopStep
  rcases step_sda_cases h hr hw hs with ⟨hquiet, h1, h2⟩ | ⟨h1, hpad, ho⟩ | ⟨h2, hpad, ho⟩
  · obtain ⟨hp1, hp2⟩ := hquiet.no_condition
    exact ⟨fun hne => .inl (hquiet.resolve_left hne), iff_of_false hp1 h1, fun hs => absurd hs h1, iff_of_false hp2 h2,
      fun hs => absurd hs h2, h.readsLine⟩
  · exact ⟨fun _ => .inr (.inl h1), iff_of_true hpad h1, fun _ => ho, iff_of_false hpad.not_padStop (hone h1),
      fun h2 => absurd h2 (hone h1), h.readsLine⟩
  · exact ⟨fun _ => .inr (.inr h2), iff_of_false (fun hp => hp.not_padStop hpad) fun h1 => hone h1 h2,
      fun h1 => absurd h2 (hone h1), iff_of_true hpad h2, fun _ => ho, h.readsLine⟩

end Sys2Proof.Machine
end

section
/-! PROOFS. Entering a sequencer state (R173), GO (R172), and what each completion step makes of its cycle (R174 to R188). -/

namespace Sys2Proof.Machine

/-! ### Entering a state (R173) -/

/-- The word of a `B_OUT` is its code, `last = 0` and the byte (R93). -/
theorem bcmdWord_out (data : Byte) : bcmdWord .out false data = 0x6#4 ++ data :=
  (BitVec.append_assoc (x₁ := BopCode.out) (x₂ := 0#1) (x₃ := data)).symm

/-- Entering a state that runs a byte command, from the state's word. -/
theorem enter_starts {s e : State} {q : Seq} {n : BitVec 9} {w : BitVec 12} {i : Instr} (hw : s.bcmdFor q n = some w)
    (hi : decode (.b w) = .ok i) (he : s.entered q n = e) :
    s.bcmdFor q n = some w ∧ decode (.b w) = .ok i ∧ enter q n s = exec i (s.setPc q 0) ∧ enter q n s = .next e :=
  ⟨hw, hi, enter_of_bcmdFor hw hi, (enter_eq q n s).trans (congrArg _ he)⟩

/-- Settles O6: the word of each state and the operation decoded from it. -/
theorem enterRunsTheStatesCommand : Obligations.EnterRunsTheStatesCommand := by
  intro s n
  have out (data : Byte) {q : Seq} (hw : s.bcmdFor q n = some (bcmdWord .out false data))
      (he : s.entered q n = { s with seq := q, ustep := 0, bop := .out, bdata := data, blast := false }) :=
    enter_starts (hw.trans (congrArg _ (bcmdWord_out data))) (bcmdWord_out data ▸ decode_out data) he
  have stop {q : Seq} (hw : s.bcmdFor q n = some 0x400#12)
      (he : s.entered q n = { s with seq := q, ustep := 0, bop := .stop, bdata := 0, blast := false }) :=
    enter_starts hw (i := .bStop) rfl he
  refine ⟨enter_starts rfl rfl rfl, enter_starts rfl rfl rfl, enter_starts rfl rfl rfl, ?_, ?_, ?_, ?_, ?_, ?_, ?_⟩
  · exact out _ rfl rfl
  · exact out _ rfl rfl
  · exact out _ rfl rfl
  · rintro last rfl
    have hw : bcmdWord .inp (decide (n.toNat + 1 = s.rlen.toNat)) 0 =
        if decide (n.toNat + 1 = s.rlen.toNat) then 0x900#12 else 0x800#12 := by
      cases decide (n.toNat + 1 = s.rlen.toNat) <;> rfl
    rw [← hw]
    exact enter_starts rfl (decode_inp _) rfl
  · rintro q (rfl | rfl | rfl | rfl) <;> exact stop rfl rfl
  · exact enter_eq _ _ _
  · exact enter_eq _ _ _

/-! ### GO (R172) -/

/-- The four ways a descriptor is illegal (R172). -/
theorem badDescriptor_iff (s : State) :
    s.badDescriptor = true ↔ s.wlen.toNat > s.par.txDepth ∨ s.rlen.toNat > s.par.rxDepth
      ∨ s.retry.toNat > s.par.retryMax ∨ (s.cfg.getLsbD 3 = true ∧ s.wlen = 0) := by
  simp [State.badDescriptor, State.aip, or_assoc]

/-- A GO is ignored by a block that is busy, not idle or faulted (R65, R172). -/
theorem exec_transaction_ignored {s : State} (h : s.busy = true ∨ s.seq ≠ .idle ∨ s.fault = true) :
    exec .transaction s = .next { s with hRdata := 0 } := by
  rw [exec, execTransaction]
  split_ifs with hb
  · rfl
  · exact if_pos (h.resolve_left hb)

/-- A GO over an illegal descriptor is rejected (R172). -/
theorem exec_transaction_rejected {s : State} (hb : s.busy = false) (hq : s.seq = .idle) (hf : s.fault = false)
    (hd : s.badDescriptor = true) :
    exec .transaction s = .next { s.noReadData.clearResults with failCode := .badArg, done := true } := by
  have hd' : s.noReadData.badDescriptor = true := hd
  rw [exec, execTransaction, if_neg (by simp [hb]), go, if_neg (by simp [hq, hf]), if_pos hd']

/-- Settles O28: GO is ignored, rejected or accepted. -/
theorem goStartsOrRejectsTheTransaction : Obligations.GoStartsOrRejectsTheTransaction := by
  intro s
  by_cases h : s.busy = true ∨ s.seq ≠ .idle ∨ s.fault = true
  · rw [if_pos h]
    exact exec_transaction_ignored h
  · rw [if_neg h]
    obtain ⟨hb, hq, hf⟩ : s.busy = false ∧ s.seq = .idle ∧ s.fault = false := by simpa using h
    by_cases hd : s.badDescriptor = true
    · rw [if_pos ((badDescriptor_iff s).mp hd)]
      exact exec_transaction_rejected hb hq hf hd
    · rw [if_neg (hd ∘ (badDescriptor_iff s).mpr)]
      exact exec_transaction_accepted hb hq hf (by simpa using hd)

/-! ### The completion steps (R174 to R188) -/

/-- The cycle in which a completion step is due is that step, with the read data and the clock beside it. -/
theorem step_complete {s : State} {q : Seq} (h : s.completes q) (hq : q.command.isSome = true) :
    step s = andThen (complete s) (fun e => .next (s.endCycle e)) := by
  obtain ⟨rfl, hd, hu, hb, hr⟩ := h
  obtain ⟨e, he, -, hstep⟩ := step_eq_endCycle hr hb (Seq.engineIdle_of_command hq)
  rw [engineStep_of_command hq, commandCycle, if_neg (not_not.mpr hd), if_neg hu.not_lt] at he
  rw [hstep, he, andThen_next]

/-- The same, for a completion step that is known. -/
theorem step_completes {s : State} {q : Seq} {o : Host.Outcome State Fault Refusal} (h : s.completes q)
    (hq : q.command.isSome = true) (hc : complete s = o) : step s = andThen o (fun e => .next (s.endCycle e)) :=
  hc ▸ step_complete h hq

/-! The completion steps that branch. -/

theorem complete_wAddr {s : State} (hq : s.seq = .wAddr) : complete s = completeWAddr s := by rw [complete, hq]
theorem complete_wData {s : State} (hq : s.seq = .wData) : complete s = completeWData s := by rw [complete, hq]
theorem complete_wStop {s : State} (hq : s.seq = .wStop) : complete s = completeWStop s := by rw [complete, hq]
theorem complete_rAddr {s : State} (hq : s.seq = .rAddr) : complete s = completeRAddr s := by rw [complete, hq]
theorem complete_rnStop {s : State} (hq : s.seq = .rnStop) : complete s = completeRnStop s := by rw [complete, hq]
theorem complete_rData {s : State} (hq : s.seq = .rData) : complete s = completeRData s := by rw [complete, hq]

/-- What `noteNak` writes (R177). -/
theorem noteNak_eq (s : State) : s.noteNak = { s with nakSeen := if s.ack then s.nakSeen else true } := by
  rw [State.noteNak]
  cases s.ack <;> simp

/-- `first` in the index register (R175). -/
theorem ofNat_first (s : State) : BitVec.ofNat 9 s.first = if s.cfg.getLsbD 3 then 1 else 0 := by
  rw [State.first, State.aip, apply_ite (BitVec.ofNat 9)]
  rfl

/-- Settles O29: the completions of `B_INIT` and of `B_START` have one way to go. -/
theorem startPhasesFollowInOrder : Obligations.StartPhasesFollowInOrder := by
  refine fun s => ⟨fun h => ?_, fun h => ?_, fun h => ?_⟩ <;> exact step_completes h rfl (by rw [complete, h.1])

/-- Settles O30: the completion of `S_WADDR`, its flags and fields written out. -/
theorem writeAddressCompletion : Obligations.WriteAddressCompletion := by
  intro s h
  refine step_completes h rfl ((complete_wAddr h.1).trans ?_)
  rw [completeWAddr, noteNak_eq]
  rfl

/-- Settles O31: the completion of `S_WDATA`, its flags and fields written out. -/
theorem payloadByteCompletion : Obligations.PayloadByteCompletion := by
  intro s h
  refine step_completes h rfl ((complete_wData h.1).trans ?_)
  rw [completeWData, noteNak_eq, ofNat_first]
  rfl

/-- Settles O32: the completions of the three STOPs. -/
theorem stopsEndThePhaseOrTheTransaction : Obligations.StopsEndThePhaseOrTheTransaction := by
  refine fun s => ⟨fun h hr => ?_, fun h hr => ?_, fun h => ?_, fun h => ?_⟩
  · exact step_completes h rfl (o := .next _) ((complete_wStop h.1).trans (if_pos hr))
  · exact step_completes h rfl ((complete_wStop h.1).trans (if_neg hr))
  · exact step_completes h rfl (o := .next (s.finish false)) (by rw [complete, h.1])
  · exact step_completes h rfl (o := .next (s.finish true)) (by rw [complete, h.1])

/-- Settles O33: the completion of `S_RADDR`. -/
theorem readAddressCompletion : Obligations.ReadAddressCompletion :=
  fun _ h => step_completes h rfl (complete_rAddr h.1)

/-- Settles O34: the completion of `S_RNSTOP`. -/
theorem readAddressRetryOrFailure : Obligations.ReadAddressRetryOrFailure := by
  refine fun s h => ⟨fun ht => ?_, fun ht => ?_⟩
  · exact step_completes h rfl (o := .next _) ((complete_rnStop h.1).trans (if_pos ht))
  · exact step_completes h rfl ((complete_rnStop h.1).trans (if_neg ht))

/-- Settles O35: the completion of `S_RDATA`, and the read after its write. -/
theorem receivedByteIsStored : Obligations.ReceivedByteIsStored :=
  fun s h => ⟨Memory.write s.rxbuf s.ridx.toNat s.bdata, step_completes h rfl (complete_rData h.1), rxByte_of_write rfl rfl⟩

/-! ### After the end (R192) -/

/-- While `BUSY` a transaction is not `DONE` (R40). -/
theorem Inv.not_done {s : State} (h : Inv s) (hb : s.busy = true) : s.done = false := by
  by_contra hd
  simp [h.control.doneIdle (by simpa using hd)] at hb

/-- Settles O43: such a block rests in `S_IDLE`. -/
theorem doneWithoutFaultMeansIdleBus : Obligations.DoneWithoutFaultMeansIdleBus := by
  intro s h hdone hf
  have hi : s.seq.engineIdle = true := by
    by_contra hq
    simp [h.not_done (h.busy_iff.mpr (by simpa using hq))] at hdone
  obtain ⟨hscl, hsda, ho⟩ := h.lines_resting hi
  exact ⟨ho fun hq => by simp [h.control.faultIff.mpr hq] at hf, hscl, hsda⟩

end Sys2Proof.Machine
end

section
/-! PROOFS. The wait states as a countdown (R182, R186), and the transitions of `seq` (R196). -/

namespace Sys2Proof.Machine

/-- A cycle in which the engine makes a move ends in what the move leaves, with the read data and the clock beside it. -/
theorem EngineMove.endCycle {s e : State} (hm : EngineMove s e) : s.endCycle e = e.later 1 s.portData := by
  obtain ⟨hins, hcycle⟩ := hm.clock
  rw [State.endCycle, State.later, hins, hcycle, List.drop_one]

/-! ### The wait states -/

section
variable {s : State} (hq : s.seq = .preWait ∨ s.seq = .retryWait)
include hq

theorem engineStep_wait : engineStep s = waitCycle s := by
  rw [engineStep]
  rcases hq with hq | hq <;> rw [hq]

/-- While a transaction runs, a cycle of a wait state is a countdown or the start of the read phase (R246). -/
theorem step_wait (hr : s.cur.rst = false) (hb : s.busy = true) :
    step s = .next
      ((if s.wcnt ≠ 0 then { s with wcnt := s.wcnt - 1 } else s.entered .rStart 0 : State).later 1 s.portData) := by
  have hrun : s.seq.engineIdle = false := by rcases hq with hq | hq <;> rw [hq] <;> rfl
  obtain ⟨e, he, hm, hstep⟩ := step_eq_endCycle hr hb hrun
  rw [engineStep_wait hq, waitCycle, enter_eq] at he
  rw [hstep, hm.endCycle]
  split_ifs at he ⊢ <;> cases he <;> rfl

/-- A wait state counts down, and nothing else moves but the read data and the clock. -/
theorem run_wait {n : Nat} (hn : n ≤ s.wcnt) (hb : s.busy = true) (hr : s.noResetFor n) :
    ∃ x, run n s = .next (({ s with wcnt := s.wcnt - n } : State).later n x) := by
  induction n generalizing s with
  | zero => exact ⟨s.hRdata, rfl⟩
  | succ n ih =>
    have hstep := step_wait hq (hr 0 n.succ_pos) hb
    rw [if_pos (by omega)] at hstep
    obtain ⟨x, hx⟩ := ih (s := ({ s with wcnt := s.wcnt - 1 } : State).later 1 s.portData) hq
      (Nat.le_sub_of_add_le hn) hb (noResetFor_later _ (by rwa [Nat.add_comm]))
    refine ⟨x, (run_succ_of_step hstep).trans (hx.trans ?_)⟩
    have hw : s.wcnt - (n + 1) = s.wcnt - 1 - n := by omega
    rw [hw, Nat.add_comm n 1, ← later_later _ 1 n s.portData]
    rfl

end

/-- Settles O36: the countdown, and the cycle after it. -/
theorem waitStateLastsItsCount : Obligations.WaitStateLastsItsCount := by
  intro s hq hb hr
  have count (n : Nat) (hn : n ≤ s.wcnt) := run_wait hq hn hb fun k hk => hr k (by omega)
  refine ⟨count, ?_⟩
  obtain ⟨x, hx⟩ := count s.wcnt le_rfl
  rw [Nat.sub_self] at hx
  generalize ht : ({ s with wcnt := 0 } : State).later s.wcnt x = t at hx
  have hstep : step t = .next ((t.entered .rStart 0).later 1 t.portData) := by
    have hw : ¬ t.wcnt ≠ 0 := by rw [← ht]; exact not_not.mpr rfl
    have hrt : t.cur.rst = false := by rw [← ht, cur_later]; exact hr s.wcnt (Nat.lt_succ_self _)
    have hstep := step_wait (s := t) (by rw [← ht]; exact hq) hrt (by rw [← ht]; exact hb)
    rwa [if_neg hw] at hstep
  refine ⟨t.portData, ?_⟩
  rw [run_add, hx, andThen_next, run_succ_of_step hstep, run_zero, ← later_later _ s.wcnt 1 x, ← ht]
  rfl

/-! ### The transitions of `seq` (R196) -/

/-- The engine keeps `seq`, takes the fatal abort, or takes a transition of the table, out of a byte command at its
completion step. -/
theorem EngineMove.seq {s e : State} (hm : EngineMove s e) :
    e.seq = s.seq ∨ (s.writeFails = true ∧ s.seq.command.isSome = true ∧ e.seq = .fault)
      ∨ ((s.seq.command.isSome = true → s.completing = true) ∧ seqEdge s e.seq) := by
  have done {q : Seq} (hs : s.seq = q) (hq : q.command.isSome = true) (hd : s.dly = 0)
      (hu : ¬ s.ustep.toNat < s.bop.len) (hedge : seqEdge s e.seq) :
      e.seq = s.seq ∨ (s.writeFails = true ∧ s.seq.command.isSome = true ∧ e.seq = .fault)
        ∨ ((s.seq.command.isSome = true → s.completing = true) ∧ seqEdge s e.seq) := by
    obtain ⟨b, hb⟩ := Option.isSome_iff_exists.mp hq
    exact .inr (.inr ⟨fun _ => completing_of (hs ▸ hb) hd hu, hedge⟩)
  cases hm with
  | rest | waitCount | delay => exact .inl rfl
  | lineOp => exact .inl (lineOp_seq s)
  | wDataNext hq | rDataNext hq => exact .inl (by rw [entered_seq, hq])
  | abort hq hd hu ha => exact .inr (.inl ⟨by simp [State.writeFails, atLineOp_of hq hd hu, ha], hq, rfl⟩)
  | waitEnd hq hw =>
    refine .inr (.inr ⟨?_, ?_⟩) <;> rcases hq with hq | hq <;> simp [seqEdge, hq, hw, Seq.command]
  | initDone hq hd hu | wStartDone hq hd hu | rStartDone hq hd hu | rStopEnd hq hd hu | abStopEnd hq hd hu =>
    exact done hq rfl hd hu (by simp [seqEdge, hq])
  | wAddrNak hq hd hu hn hi | wDataNak hq hd hu hn hi =>
    exact done hq rfl hd hu (by rw [seqEdge, hq]; exact .inl ⟨⟨hn, hi⟩, entered_seq _ _ _⟩)
  | wAddrData hq hd hu hn hl =>
    exact done hq rfl hd hu (by rw [seqEdge, hq]; exact .inr (.inl ⟨hn, hl, entered_seq _ _ _⟩))
  | wAddrStop hq hd hu hn hl =>
    exact done hq rfl hd hu (by rw [seqEdge, hq]; exact .inr (.inr ⟨hn, Nat.le_of_not_lt hl, entered_seq _ _ _⟩))
  | wDataStop hq hd hu hn hl =>
    exact done hq rfl hd hu (by rw [seqEdge, hq]; exact .inr ⟨hn, Nat.le_of_not_lt hl, entered_seq _ _ _⟩)
  | rDataLast hq hd hu hl =>
    exact done hq rfl hd hu (by rw [seqEdge, hq]; exact ⟨Nat.le_of_not_lt hl, entered_seq _ _ _⟩)
  | wStopEnd hq hd hu hc | retriesOut hq hd hu hc => exact done hq rfl hd hu (by rw [seqEdge, hq]; exact .inl ⟨hc, rfl⟩)
  | rAddrAck hq hd hu hc => exact done hq rfl hd hu (by rw [seqEdge, hq]; exact .inl ⟨hc, entered_seq _ _ _⟩)
  | wStopRead hq hd hu hc | retry hq hd hu hc | rAddrNak hq hd hu hc =>
    exact done hq rfl hd hu (by rw [seqEdge, hq]; exact .inr ⟨hc, entered_seq _ _ _⟩)

/-- What an accepted GO takes (R12, R65, R172). -/
theorem acceptsGo_iff (s : State) :
    s.acceptsGo = true ↔ s.cur.hSel = true ∧ s.cur.hWe = true ∧ s.cur.hIdx = 0#10 ∧ s.cur.hWdata.getLsbD 0 = true
      ∧ s.busy = false ∧ s.seq = .idle ∧ s.fault = false := by
  simp [State.acceptsGo, and_assoc]

/-- A host request moves `seq` by an accepted GO alone (R172). -/
theorem HostMove.seq {s r : State} (hm : HostMove s r) :
    r.seq = s.seq ∨ (s.seq = .idle ∧ r.seq = .init ∧ s.acceptsGo = true ∧ s.badDescriptor = false) := by
  cases hm with
  | goAccepted hs hw hb hi hg hq hf hd => exact .inr ⟨hq, rfl, (acceptsGo_iff s).mpr ⟨hs, hw, hi, hg, hb, hq, hf⟩, hd⟩
  | _ => exact .inl (by simp)

/-- Settles O37: the reset, an accepted GO, or the engine's move. -/
theorem seqMovesOnlyAlongTheTable : Obligations.SeqMovesOnlyAlongTheTable := by
  intro s t hs hne
  by_cases hr : s.cur.rst = true
  · rw [step, if_pos hr] at hs
    cases hs
    exact .inl ⟨hr, rfl⟩
  · have hr : s.cur.rst = false := by simpa using hr
    by_cases hi : s.seq.engineIdle = true
    · obtain ⟨r, hm, rfl⟩ := step_rest hr hi hs
      obtain ⟨hq, hinit, hgo, hlegal⟩ := hm.seq.resolve_left hne
      refine .inr (.inr ⟨hr, by simp [hq, Seq.command], ?_⟩)
      rw [seqEdge, hq]
      exact ⟨hinit, hgo, hlegal⟩
    · obtain ⟨r, e, -, hm, rfl⟩ := step_running hr (by simpa using hi) hs
      rcases hm.seq with hq | hfail | hedge
      · exact absurd hq hne
      · exact .inr (.inl ⟨hr, hfail⟩)
      · exact .inr (.inr ⟨hr, hedge⟩)

end Sys2Proof.Machine
end

section
/-! PROOFS. Every transaction ends (R190): each cycle of the engine takes something from what is left of it. -/

namespace Sys2Proof.Machine

/-! ### What is left of a transaction -/

/-- The sequencer states still ahead: retries, bytes to send and bytes to receive are counted, so that every transition of
R196 lowers the number. -/
def State.statesLeft (s : State) : Nat :=
  let retries := s.rlen.toNat + 4 * (s.retry.toNat - s.tries.toNat)
  match s.seq with
  | .idle | .fault => 0
  | .rStop | .abStop => 1
  | .rData => 1 + (s.rlen.toNat - s.ridx.toNat)
  | .rnStop => retries + 1
  | .rAddr => retries + 2
  | .rStart => retries + 3
  | .preWait | .retryWait => retries + 4
  | .wStop => retries + 5
  | .wData => retries + 5 + (s.wlen.toNat - s.widx.toNat)
  | .wAddr => retries + 6 + s.wlen.toNat
  | .wStart => retries + 7 + s.wlen.toNat
  | .init => retries + 8 + s.wlen.toNat

/-- What is left inside the sequencer state: the wait, or the line ops ahead and the rest of the tail, which is shorter
than 131071 cycles (R122). -/
def State.cyclesLeft (s : State) : Nat :=
  if s.seq.command.isSome then (s.bop.len - s.ustep.toNat) * 131071 + s.dly.toNat else s.wcnt

/-- Less is left of the transaction in `t` than in `s`. -/
def LessLeft (t s : State) : Prop :=
  t.statesLeft < s.statesLeft ∨ (t.statesLeft = s.statesLeft ∧ t.cyclesLeft < s.cyclesLeft)

/-- It is the lexicographic order of the two counts. -/
theorem lessLeft_wf : WellFounded LessLeft := by
  have hlex {t s : State} (h : LessLeft t s) :
      Prod.Lex (· < ·) (· < ·) (t.statesLeft, t.cyclesLeft) (s.statesLeft, s.cyclesLeft) := Prod.lex_iff.mpr h
  exact Subrelation.wf hlex
    (InvImage.wf (fun s : State => (s.statesLeft, s.cyclesLeft)) (Prod.lex Nat.lt_wfRel Nat.lt_wfRel).wf)

/-- The engine's move ends the transaction, or goes on with less of it left. -/
theorem EngineMove.ends_or_goes_on {s e : State} (hm : EngineMove s e) (h : Inv s) (hb : s.busy = true) :
    (e.busy = false ∧ e.done = true) ∨ (e.busy = true ∧ LessLeft e s) := by
  have fewerStates (hbusy : e.busy = s.busy) (hl : e.statesLeft < s.statesLeft) :
      (e.busy = false ∧ e.done = true) ∨ (e.busy = true ∧ LessLeft e s) := .inr ⟨hbusy.trans hb, .inl hl⟩
  have fewerCycles (hbusy : e.busy = s.busy) (hs : e.statesLeft = s.statesLeft) (hl : e.cyclesLeft < s.cyclesLeft) :
      (e.busy = false ∧ e.done = true) ∨ (e.busy = true ∧ LessLeft e s) := .inr ⟨hbusy.trans hb, .inr ⟨hs, hl⟩⟩
  cases hm with
  | rest hq =>
    obtain ⟨hidle, hfault⟩ := h.control.busyIff.mp hb
    exact absurd hq (not_or.mpr ⟨hidle, hfault⟩)
  | abort | wStopEnd | retriesOut | rStopEnd | abStopEnd => exact .inl ⟨rfl, rfl⟩
  | waitCount hq hw =>
    refine fewerCycles rfl rfl ?_
    rcases hq with hq | hq <;> simp only [State.cyclesLeft, hq, Seq.command] <;> exact Nat.sub_one_lt hw
  | delay hq hd =>
    refine fewerCycles rfl rfl ?_
    simp only [State.cyclesLeft, hq, if_true]
    bv_omega
  | lineOp hq hd hu =>
    have hstep := afterUop_ustep_toNat hu
    have hdly := lineOp_dly_le s
    refine fewerCycles (by simp) (by simp [State.statesLeft]) ?_
    simp only [State.cyclesLeft, State.afterUop_seq, State.afterUop_bop, State.afterUop_dly, lineOp_seq, lineOp_bop, hq,
      hstep, if_true]
    omega
  | waitEnd hq =>
    refine fewerStates (by simp) ?_
    rcases hq with hq | hq <;> simp [State.statesLeft, hq]
  | initDone hq | wStartDone hq | wStopRead hq | rStartDone hq | rAddrNak hq =>
    exact fewerStates (by simp) (by simp [State.statesLeft, hq])
  | wAddrNak hq | wAddrStop hq | wDataNak hq | rAddrAck hq =>
    exact fewerStates (by simp) (by simp [State.statesLeft, hq]; omega)
  | wAddrData hq =>
    have hf := first_toNat s
    exact fewerStates (by simp) (by simp [State.statesLeft, hq]; omega)
  | wDataNext hq _ _ _ hl =>
    have hw := h.widx_succ hq
    exact fewerStates (by simp) (by simp [State.statesLeft, hq]; omega)
  | wDataStop hq =>
    have hw := h.descriptor.widxInside hq
    exact fewerStates (by simp) (by simp [State.statesLeft, hq]; omega)
  | retry hq _ _ ht =>
    obtain ⟨hsucc, hle⟩ := h.tries_succ (by rw [hq]; rfl) ht
    exact fewerStates (by simp) (by simp [State.statesLeft, hq]; omega)
  | rDataNext hq _ _ hl =>
    have hr := h.ridx_succ hq
    exact fewerStates (by simp) (by simp [State.statesLeft, hq]; omega)
  | rDataLast hq =>
    have hr := h.descriptor.ridxInside hq
    exact fewerStates (by simp) (by simp [State.statesLeft, hq]; omega)

/-! ### The end of a transaction -/

/-- A busy block comes to the end of its transaction, `DONE` being 0 until then; by induction on what is left of it. -/
theorem Inv.transaction_ends {s : State} (h : Inv s) (hb : s.busy = true) (hr : ∀ k, (s.inputAt k).rst = false) :
    ∃ n t, run n s = .next t ∧ t.busy = false ∧ t.done = true ∧ ∀ k < n, ∃ u, run k s = .next u ∧ u.done = false := by
  induction s using lessLeft_wf.induction with
  | _ s ih =>
    obtain ⟨e, -, hm, hstep⟩ := step_eq_endCycle (hr 0) hb (h.busy_iff.mp hb)
    rw [hm.endCycle] at hstep
    have first (k : Nat) (hk : k < 1) : ∃ u, run k s = .next u ∧ u.done = false :=
      ⟨s, by rw [Nat.lt_one_iff.mp hk, run_zero], h.not_done hb⟩
    rcases hm.ends_or_goes_on h hb with ⟨hbusy, hdone⟩ | ⟨hbusy, hless⟩
    · exact ⟨1, _, run_succ_of_step hstep, hbusy, hdone, first⟩
    · have hr' (k : Nat) : ((e.later 1 s.portData).inputAt k).rst = false := by
        obtain ⟨hins, hcycle⟩ := hm.clock
        rw [inputAt_later, inputAt_congr hins hcycle]
        exact hr _
      obtain ⟨n, t, hrun, hend, hdone, hbefore⟩ := ih (e.later 1 s.portData) hless (h.step hstep) hbusy hr'
      refine ⟨n + 1, t, (run_succ_of_step hstep).trans hrun, hend, hdone, ?_⟩
      rintro (_ | k) hk
      · exact first 0 Nat.one_pos
      · rw [run_succ_of_step hstep]
        exact hbefore k (Nat.lt_of_succ_lt_succ hk)

/-- An accepted GO begins a transaction or ends it at once (R172). -/
theorem HostMove.of_acceptsGo {s r : State} (hm : HostMove s r) (hg : s.acceptsGo = true) :
    (r.busy = false ∧ r.done = true) ∨ (r.busy = true ∧ r.done = false) := by
  obtain ⟨hsel, hwe, hidx, hbit, hbusy, hq, hf⟩ := (acceptsGo_iff s).mp hg
  cases hm with
  | goRejected => exact .inl ⟨hbusy, rfl⟩
  | goAccepted => exact .inr ⟨rfl, rfl⟩
  | _ => simp_all

/-- The clock is moved by the edge alone. -/
theorem HostMove.clock {s r : State} (hm : HostMove s r) : r.ins = s.ins ∧ r.cycle = s.cycle := by
  cases hm <;> simp

/-- The transaction of an accepted GO, from the GO's cycle to its end. -/
theorem Inv.transaction_from_go {s : State} (h : Inv s) (hg : s.acceptsGo = true) (hr : ∀ k, (s.inputAt k).rst = false) :
    ∃ n e, TransactionFrom s e n ∧ e.busy = false := by
  have hq : s.seq.engineIdle = true := by
    obtain ⟨-, -, -, -, -, hq, -⟩ := (acceptsGo_iff s).mp hg
    rw [hq]
    rfl
  obtain ⟨t, hstep, -⟩ := step_hRdata (hr 0)
  have ht : Inv t := h.step hstep
  obtain ⟨r, hm, rfl⟩ := step_rest (hr 0) hq hstep
  rcases hm.of_acceptsGo hg with ⟨hbusy, hdone⟩ | ⟨hbusy, -⟩
  · exact ⟨1, _, ⟨hg, Nat.one_pos, fun k _ => hr k, run_succ_of_step hstep, hdone, fun k hk hk1 => by omega⟩, hbusy⟩
  · have hr' (k : Nat) : (r.closeCycle.inputAt k).rst = false := by
      obtain ⟨hins, hcycle⟩ := hm.clock
      rw [inputAt_closeCycle, inputAt_congr hins hcycle]
      exact hr _
    obtain ⟨n, e, hrun, hend, hdone, hbefore⟩ := ht.transaction_ends hbusy hr'
    refine ⟨n + 1, e, ⟨hg, n.succ_pos, fun k _ => hr k, (run_succ_of_step hstep).trans hrun, hdone, ?_⟩, hend⟩
    rintro (_ | k) hk hkn
    · exact absurd hk (Nat.lt_irrefl 0)
    · rw [run_succ_of_step hstep]
      exact hbefore k (Nat.lt_of_succ_lt_succ hkn)

/-- Settles O46: what is left of a transaction is less after each cycle. -/
theorem everyTransactionEnds : Obligations.EveryTransactionEnds := by
  refine fun s h hr => ⟨fun hb => ?_, fun hg => h.transaction_from_go hg hr⟩
  obtain ⟨n, t, hrun, hend, hdone, -⟩ := h.transaction_ends hb hr
  exact ⟨n, t, hrun, hend, hdone⟩

end Sys2Proof.Machine
end

section
/-! PROOFS. The two address modes (R195): a simulation, cycle by cycle, of the transaction with `ADDR` by the one with the
address in `TXBUF[0]`. -/

namespace Sys2Proof.Machine

/-! ### The simulation -/

/-- `s` with the fields in which an embedded-address transaction differs taken from it, `t`. -/
def State.embed (s t : State) : State :=
  { s with cfg := s.cfg ||| 8#4, addr := t.addr, wlen := s.wlen + 1, txbuf := t.txbuf, widx := t.widx }

/-- `s` and `t` are at the same point of the same transaction, `s` with its address in `ADDR`, `t` in `TXBUF[0]`; the
payload stands one index higher in `t`. -/
structure SameTransaction (s t : State) : Prop where
  explicitMode : s.cfg.getLsbD 3 = false
  fits : s.wlen.toNat < 256
  rest : t = s.embed t
  payload : ∀ i < s.wlen.toNat, t.txByte (i + 1) = s.txByte i
  index : s.seq = .wData → t.widx = s.widx + 1 ∧ s.widx.toNat < s.wlen.toNat

/-- The next state with those fields of `t`. -/
def embedAfter (t : State) (o : Host.Outcome State Fault Refusal) : Host.Outcome State Fault Refusal :=
  andThen o fun e => .next (e.embed t)

/-! ### What both modes do alike -/

section
variable (s t : State)

/-- The other bits of `CFG` are those of `s`. -/
theorem embed_cfg (i : Nat) (hi : i < 3) : (s.embed t).cfg.getLsbD i = s.cfg.getLsbD i := by
  have h8 : (8#4).getLsbD i = false := by
    obtain rfl | rfl | rfl : i = 0 ∨ i = 1 ∨ i = 2 := by omega
    all_goals rfl
  rw [State.embed, BitVec.getLsbD_or, h8, Bool.or_false]

theorem embed_tail : (s.embed t).tail = s.tail := by
  rw [State.tail, State.skipDelay, embed_cfg s t 1 (by decide)]
  rfl

/-- A NAK is ignored in both modes or in neither (R177, R178). -/
theorem embed_nak : (s.embed t).ack = false ∧ (s.embed t).ignoreNak = false ↔ s.ack = false ∧ s.ignoreNak = false := by
  rw [State.ignoreNak, embed_cfg s t 2 (by decide)]
  rfl

theorem embed_lineOp : (s.embed t).lineOp = s.lineOp.embed t := by
  have htail := embed_tail s t
  rcases lop_legal s with hl | hl | hl | hl | hl
  · rw [lineOp_of_sclLo hl, lineOp_of_sclLo (s := s.embed t) hl, htail]; rfl
  · have hforce : (s.embed t).forceSclHigh = s.forceSclHigh := embed_cfg s t 0 (by decide)
    rw [lineOp_of_sclHi hl, lineOp_of_sclHi (s := s.embed t) hl, apply_ite (State.embed · t), htail, hforce]; rfl
  · rw [lineOp_of_sdaLo hl, lineOp_of_sdaLo (s := s.embed t) hl, htail]; rfl
  · rw [lineOp_of_sdaHi hl, lineOp_of_sdaHi (s := s.embed t) hl, htail]; rfl
  · rw [lineOp_of_sdaRd hl, lineOp_of_sdaRd (s := s.embed t) hl, deliver_eq, deliver_eq]; rfl

theorem execUop_embed : execUop (s.embed t) = embedAfter t (execUop s) := by
  have ha : (s.embed t).uopAborts = s.uopAborts := rfl
  rw [execUop_eq, execUop_eq, embed_lineOp, ha]
  cases s.uopAborts <;> rfl

/-- Entering a state other than `S_WDATA`. -/
theorem enter_embed {q : Seq} (n : BitVec 9) (hq : q ≠ .wData) : enter q n (s.embed t) = embedAfter t (enter q n s) := by
  rw [enter_eq, enter_eq]
  cases q with
  | wData => exact absurd rfl hq
  | _ => rfl

theorem waitCycle_embed : waitCycle (s.embed t) = embedAfter t (waitCycle s) := by
  unfold waitCycle
  rw [apply_ite (embedAfter t), ← enter_embed s t 0 (by decide)]
  rfl

/-- The completions that do not read the payload (R176, R179 to R188). -/
theorem complete_embed (ha : s.seq ≠ .wAddr) (hd : s.seq ≠ .wData) :
    complete (s.embed t) = embedAfter t (complete s) := by
  have hseq : (s.embed t).seq = s.seq := rfl
  unfold complete
  rw [hseq]
  cases hq : s.seq with
  | wAddr => exact absurd hq ha
  | wData => exact absurd hq hd
  | init | wStart | rStart => exact enter_embed s t _ (by decide)
  | wStop | rnStop =>
    dsimp only [completeWStop, completeRnStop]
    rw [apply_ite (embedAfter t), ← enter_embed _ _ _ (by decide)]
    rfl
  | rAddr | rData =>
    dsimp only [completeRAddr, completeRData]
    rw [apply_ite (embedAfter t), ← enter_embed _ _ _ (by decide), ← enter_embed _ _ _ (by decide)]
    rfl
  | idle | preWait | retryWait | fault | rStop | abStop => rfl

variable {s t}

/-- A cycle of a byte command is alike in both modes where its completion is. -/
theorem commandCycle_embed (hc : s.completing = true → complete (s.embed t) = embedAfter t (complete s))
    (hq : s.seq.command.isSome = true) : commandCycle (s.embed t) = embedAfter t (commandCycle s) := by
  have hdly : (s.embed t).dly = s.dly := rfl
  have hstep : (s.embed t).ustep.toNat < (s.embed t).bop.len ↔ s.ustep.toNat < s.bop.len := Iff.rfl
  obtain ⟨b, hb⟩ := Option.isSome_iff_exists.mp hq
  unfold commandCycle
  simp only [hdly, hstep]
  split_ifs with hd hu
  · rfl
  · exact execUop_embed s t
  · exact hc (completing_of hb (not_not.mp hd) hu)

/-- The engine's part of a cycle is alike in both modes but for the completions of the write phase. -/
theorem engineStep_embed (hc : s.completing = true → s.seq ≠ .wAddr ∧ s.seq ≠ .wData) :
    engineStep (s.embed t) = embedAfter t (engineStep s) := by
  have hseq : (s.embed t).seq = s.seq := rfl
  have hcomplete (h : s.completing = true) := complete_embed s t (hc h).1 (hc h).2
  unfold engineStep
  rw [hseq]
  cases hq : s.seq with
  | idle | fault => rfl
  | preWait | retryWait => exact waitCycle_embed s t
  | _ => exact commandCycle_embed hcomplete (by rw [hq]; rfl)

end

/-- Only the completions of the write phase come to a new byte of the payload (R177, R178). -/
theorem EngineMove.wData_cases {s e : State} (hm : EngineMove s e) (he : e.seq = .wData) :
    (s.seq = .wData ∧ e.widx = s.widx) ∨ (s.completing = true ∧ (s.seq = .wAddr ∨ s.seq = .wData)) := by
  cases hm with
  | rest | delay | waitCount => exact .inl ⟨he, rfl⟩
  | lineOp => exact .inl ⟨by simpa using he, by simp⟩
  | wAddrData hq hd hu => exact .inr ⟨completing_of (b := .out) (by rw [hq]; rfl) hd hu, .inl hq⟩
  | wDataNext hq hd hu => exact .inr ⟨completing_of (b := .out) (by rw [hq]; rfl) hd hu, .inr hq⟩
  | _ => simp at he

/-- The engine's step is one of its moves. -/
theorem engineMove_of_engineStep {s e : State} (he : engineStep s = .next e) : EngineMove s e := by
  obtain ⟨e', he', hm⟩ := engineStep_move s
  cases he.symm.trans he'
  exact hm

/-- A cycle with a silent host is the engine's step, with 0 on `h_rdata` (R61, R246). -/
theorem step_silent {s e : State} (hr : s.cur.rst = false) (hs : s.cur.hSel = false) (he : engineStep s = .next e) :
    step s = .next e.noReadData.closeCycle := by
  have hpart : hostPart s = .next s.noReadData := if_neg (by simp [hs])
  rw [step_of_parts hr hpart he, joinWrites]
  split_ifs with hi
  · have hrest : engineStep s = .next s := by
      rw [engineStep]
      rcases (Seq.engineIdle_iff _).mp hi with hq | hq <;> rw [hq]
    cases he.symm.trans hrest
    rfl
  · obtain ⟨hcfg, haddr, hwlen, hrlen, hretry, hwait, hqdelay, htx, -⟩ := (engineMove_of_engineStep he).keeps_host
    simp only [State.noReadData, ← hcfg, ← haddr, ← hwlen, ← hrlen, ← hretry, ← hwait, ← hqdelay, ← htx]

/-- A completion step that is due is the engine's step. -/
theorem engineStep_of_completing {s : State} (hc : s.completing = true) : engineStep s = complete s := by
  simp only [State.completing, Bool.and_eq_true, beq_iff_eq, decide_eq_true_eq] at hc
  obtain ⟨⟨hq, hd⟩, hu⟩ := hc
  rw [engineStep_of_command hq, commandCycle, if_neg (not_not.mpr hd), if_neg hu.not_gt]

/-! ### The two outcomes of a move -/

/-- The two outcomes are at the same point of the same transaction again, with the `TXBUF` of `t` in the second. -/
def Follows (t : State) (o o' : Host.Outcome State Fault Refusal) : Prop :=
  ∃ e u, o = .next e ∧ o' = .next (e.embed u) ∧ u.txbuf = t.txbuf
    ∧ (e.seq = .wData → u.widx = e.widx + 1 ∧ e.widx.toNat < e.wlen.toNat)

theorem follows_enter (s t : State) (n : BitVec 9) {q : Seq} (hq : q ≠ .wData) :
    Follows t (enter q n s) (enter q n (s.embed t)) := by
  refine ⟨_, t, enter_eq q n s, ?_, rfl, fun he => absurd ((entered_seq s q n).symm.trans he) hq⟩
  rw [enter_embed s t n hq, enter_eq]
  rfl

/-- Entering `S_WDATA` for the same byte, one index higher in the second. -/
theorem follows_enter_wData {s t u : State} {n m : BitVec 9} (hn : s.widx = n) (hm : u.widx = m) (hmn : m = n + 1)
    (hlt : n.toNat < s.wlen.toNat) (hu : u.txbuf = t.txbuf) (hb : (s.embed u).txByte m.toNat = s.txByte n.toNat) :
    Follows t (enter .wData n s) (enter .wData m (s.embed u)) := by
  refine ⟨_, u, enter_eq _ _ _, ?_, hu, fun _ => ?_⟩
  · calc enter .wData m (s.embed u)
        = .next { (s.entered .wData n).embed u with bdata := (s.embed u).txByte m.toNat } := enter_eq _ _ _
      _ = .next ((s.entered .wData n).embed u) := by
        rw [hb]
        rfl
  · rw [entered_widx, entered_wlen, hn]
    exact ⟨hm.trans hmn, hlt⟩

section
variable {s t : State} (h : SameTransaction s t)
include h

/-- What does not read the fields in which the modes differ is alike in them. -/
theorem SameTransaction.alike {α : Type} (f : State → α) (hf : f (s.embed t) = f s) : f t = f s :=
  (congrArg f h.rest).trans hf

/-! ### The completions of the write phase (R177, R178) -/

theorem SameTransaction.aip : s.aip = false ∧ (s.embed t).aip = true := by
  have h8 : (8#4).getLsbD 3 = true := rfl
  exact ⟨h.explicitMode, by rw [State.aip, State.embed, BitVec.getLsbD_or, h8, Bool.or_true]⟩

theorem SameTransaction.first : s.first = 0 ∧ (s.embed t).first = 1 := by
  obtain ⟨ha, ha'⟩ := h.aip
  rw [State.first, State.first, ha, ha']
  exact ⟨rfl, rfl⟩

theorem SameTransaction.wlen_toNat : (s.embed t).wlen.toNat = s.wlen.toNat + 1 := by
  have hf := h.fits
  have hw : (s.embed t).wlen = s.wlen + 1 := rfl
  rw [hw]
  bv_omega

/-- The payload stands one index higher. -/
theorem SameTransaction.txByte_succ {i : Nat} (hi : i < s.wlen.toNat) : (s.embed t).txByte (i + 1) = s.txByte i := by
  rw [← h.rest]
  exact h.payload i hi

theorem SameTransaction.completeWAddr : Follows t (completeWAddr s) (completeWAddr (s.embed t)) := by
  obtain ⟨hf, hf'⟩ := h.first
  have hw := h.wlen_toNat
  have hmore : s.wlen.toNat + 1 > 1 ↔ s.wlen.toNat > 0 := Nat.succ_lt_succ_iff
  unfold Machine.completeWAddr
  simp only [embed_nak, hf, hf', hw, hmore]
  split_ifs with hn hl
  · exact follows_enter (s.noteNak.raiseFail .wAddrNak 0 s.bdata) t 0 (by decide)
  · exact follows_enter_wData (s := { s.noteNak with widx := 0 }) (u := { t with widx := 1 }) rfl rfl rfl hl rfl
      (h.txByte_succ hl)
  · exact follows_enter s.noteNak t 0 (by decide)

theorem SameTransaction.completeWData (hq : s.seq = .wData) : Follows t (completeWData s) (completeWData (s.embed t)) := by
  obtain ⟨hf, hf'⟩ := h.first
  have hw := h.wlen_toNat
  obtain ⟨hwidx, hlt⟩ := h.index hq
  have hfits := h.fits
  have hu : (s.embed t).widx = s.widx + 1 := hwidx
  have hindex : s.widx + 1 - BitVec.ofNat 9 1 + 1 = s.widx - BitVec.ofNat 9 0 + 1 := by bv_omega
  have hmore : (s.widx + 1).toNat + 1 < s.wlen.toNat + 1 ↔ s.widx.toNat + 1 < s.wlen.toNat := by bv_omega
  unfold Machine.completeWData
  simp only [embed_nak, hf, hf', hw, hu, hindex, hmore]
  split_ifs with hn hl
  · exact follows_enter (s.noteNak.raiseFail .wDataNak (s.widx - BitVec.ofNat 9 0 + 1) s.bdata) t 0 (by decide)
  · have hnext : (s.widx + 1).toNat = s.widx.toNat + 1 := by bv_omega
    have hnext' : (s.widx + 1 + 1).toNat = s.widx.toNat + 1 + 1 := by bv_omega
    refine follows_enter_wData (s := { s.noteNak with widx := s.widx + 1 }) (u := { t with widx := s.widx + 1 + 1 }) rfl rfl
      rfl (hnext ▸ hl) rfl ?_
    rw [hnext, hnext']
    exact h.txByte_succ hl
  · exact follows_enter s.noteNak t 0 (by decide)

/-! ### The cycle -/

/-- The engine takes both modes to the same point again. -/
theorem SameTransaction.engineStep : Follows t (engineStep s) (engineStep t) := by
  rw [congrArg Machine.engineStep h.rest]
  by_cases hc : s.completing = true ∧ (s.seq = .wAddr ∨ s.seq = .wData)
  · obtain ⟨hc, hq⟩ := hc
    rw [engineStep_of_completing hc, engineStep_of_completing (s := s.embed t) hc]
    rcases hq with hq | hq
    · rw [complete_wAddr hq, complete_wAddr (s := s.embed t) hq]
      exact h.completeWAddr
    · rw [complete_wData hq, complete_wData (s := s.embed t) hq]
      exact h.completeWData hq
  · rw [engineStep_embed fun hcomp => not_or.mp fun hq => hc ⟨hcomp, hq⟩]
    obtain ⟨e, he, hm⟩ := engineStep_move s
    obtain ⟨-, -, hwlen, -⟩ := hm.keeps_host
    refine ⟨e, t, he, congrArg (embedAfter t) he, rfl, fun hq => ?_⟩
    obtain ⟨hq, hwidx⟩ := (hm.wData_cases hq).resolve_right hc
    rw [hwidx, hwlen]
    exact h.index hq

/-- The descriptors stay as they are in a move. -/
theorem SameTransaction.move {e u : State} (hm : EngineMove s e) (hu : u.txbuf = t.txbuf)
    (hi : e.seq = .wData → u.widx = e.widx + 1 ∧ e.widx.toNat < e.wlen.toNat) : SameTransaction e (e.embed u) := by
  obtain ⟨hcfg, -, hwlen, -, -, -, -, htx, -⟩ := hm.keeps_host
  have hepoch : (e.embed u).epoch = t.epoch := hm.epoch.trans (h.alike State.epoch rfl).symm
  have htx' : (e.embed u).txbuf = t.txbuf := hu
  refine ⟨hcfg ▸ h.explicitMode, hwlen ▸ h.fits, rfl, fun i hlt => ?_, hi⟩
  rw [txByte_congr htx' hepoch, txByte_congr htx hm.epoch]
  exact h.payload i (hwlen ▸ hlt)

/-- The edge of a silent cycle. -/
theorem SameTransaction.closeCycle : SameTransaction s.noReadData.closeCycle t.noReadData.closeCycle :=
  ⟨h.explicitMode, h.fits, congrArg (fun x => x.noReadData.closeCycle) h.rest, h.payload, h.index⟩

/-- A silent cycle takes both modes to the same point again, and they execute the same line op in it. -/
theorem SameTransaction.step (hr : s.cur.rst = false) (hs : s.cur.hSel = false) :
    ∃ s' t', step s = .next s' ∧ step t = .next t' ∧ SameTransaction s' t' ∧ ∀ k, s'.inputAt k = s.inputAt (k + 1) := by
  have hcur : t.cur = s.cur := h.alike State.cur rfl
  obtain ⟨e, u, he, he', hu, hi⟩ := h.engineStep
  have hstep := step_silent hr hs he
  have hstep' := step_silent (hcur ▸ hr) (hcur ▸ hs) he'
  have hm := engineMove_of_engineStep he
  obtain ⟨hins, hcycle⟩ := hm.clock
  exact ⟨_, _, hstep, hstep', (h.move hm hu hi).closeCycle, fun k =>
    (inputAt_closeCycle _ k).trans (inputAt_congr hins hcycle _)⟩

theorem SameTransaction.opRecord : t.opRecord = s.opRecord := h.alike State.opRecord rfl

/-- The host and the pads see the same in both modes. -/
theorem SameTransaction.sameView : sameView s t := by
  have hv : Machine.sameView s (s.embed t) := ⟨rfl, rfl, rfl, rfl, rfl, fun _ => rfl⟩
  rwa [← h.rest] at hv

end

/-- A run with a silent host takes both modes through the same line ops and samples, by induction on its cycles. -/
theorem SameTransaction.run {s t : State} (h : SameTransaction s t) (n : Nat)
    (hr : ∀ k < n, (s.inputAt k).rst = false ∧ (s.inputAt k).hSel = false) :
    ∃ u v, run n s = .next u ∧ run n t = .next v ∧ transcript n s = transcript n t ∧ SameTransaction u v := by
  induction n generalizing s t with
  | zero => exact ⟨s, t, rfl, rfl, rfl, h⟩
  | succ n ih =>
    obtain ⟨hrst, hsel⟩ := hr 0 n.succ_pos
    obtain ⟨s', t', hs, ht, h', hin⟩ := h.step hrst hsel
    obtain ⟨u, v, hu, hv, htrace, huv⟩ := ih h' fun k hk => hin k ▸ hr (k + 1) (Nat.succ_lt_succ hk)
    refine ⟨u, v, (run_succ_of_step hs).trans hu, (run_succ_of_step ht).trans hv, ?_, huv⟩
    rw [transcript, transcript, hs, ht, h.opRecord]
    exact congrArg _ htrace

/-! ### The GO (R172, R175) -/

section
variable {s t : State} (hp : AipPair s t) (hwf : s.par.wf = true)
include hp hwf

/-- Before the GO the two descriptors are of the same transaction. -/
theorem AipPair.sameTransaction (hq : s.seq = .idle) : SameTransaction s t where
  explicitMode := hp.explicitMode
  fits := by
    obtain ⟨htx, -⟩ := depths_le_of_wf hwf
    exact hp.fits.trans_le htx
  rest := by
    have hwidx : t.widx = s.widx := (congrArg State.widx hp.rest).trans rfl
    rw [State.embed, hwidx]
    exact hp.rest
  payload := hp.payload
  index := by simp [hq]

/-- The two descriptors are legal or illegal together (R172). -/
theorem AipPair.badDescriptor (hq : s.seq = .idle) : t.badDescriptor = s.badDescriptor := by
  have h := hp.sameTransaction hwf hq
  have hw := h.wlen_toNat
  have hfits := hp.fits
  have hcfg := hp.explicitMode
  have hwlen : (s.embed t).wlen ≠ 0 := by
    intro h0
    rw [h0] at hw
    cases hw
  rw [congrArg State.badDescriptor h.rest, Bool.eq_iff_iff, badDescriptor_iff, badDescriptor_iff]
  simp only [hw, hwlen, hcfg, and_false, Bool.false_eq_true, false_and]
  exact or_congr (iff_of_false (Nat.not_lt.mpr hfits) (Nat.not_lt.mpr hfits.le)) Iff.rfl

/-- The two addresses are one (R175). -/
theorem AipPair.slaveAddr (hq : s.seq = .idle) : (s.embed t).slaveAddr = s.slaveAddr := by
  have h := hp.sameTransaction hwf hq
  obtain ⟨ha, ha'⟩ := h.aip
  rw [State.slaveAddr, State.slaveAddr, ha, ha', ← h.rest]
  exact hp.address

/-- The GO rejects both descriptors, or starts the same transaction with each. -/
theorem AipPair.go (hs : s.ready) :
    ∃ s' t', exec .transaction s = .next s' ∧ exec .transaction t = .next t' ∧ SameTransaction s' t'
      ∧ ∀ k, s'.inputAt k = s.inputAt k := by
  have h := hp.sameTransaction hwf hs.1
  have ht : t.ready := by
    have hs' : (s.embed t).ready := hs
    rwa [← h.rest] at hs'
  have hbad := hp.badDescriptor hwf hs.1
  cases hd : s.badDescriptor with
  | true =>
    obtain ⟨hq, hf, hb, -⟩ := hs
    obtain ⟨hq', hf', hb', -⟩ := ht
    refine ⟨_, _, exec_transaction_rejected hb hq hf hd, exec_transaction_rejected hb' hq' hf' (hbad.trans hd), ?_, ?_⟩
    · exact ⟨h.explicitMode, h.fits,
        congrArg (fun x : State => { x.noReadData.clearResults with failCode := .badArg, done := true }) h.rest,
        h.payload, by simp [hq]⟩
    · exact inputAt_congr rfl rfl
  | false =>
    refine ⟨_, _, exec_transaction_started hs hd, exec_transaction_started ht (hbad.trans hd), ?_, inputAt_congr rfl rfl⟩
    refine ⟨h.explicitMode, h.fits, ?_, h.payload, nofun⟩
    calc { t.started with hRdata := 0 }
        = { (s.embed t).started with hRdata := 0 } := by rw [← h.rest]
      _ = ({ s.started with a7 := (s.embed t).slaveAddr, hRdata := 0 } : State).embed { t.started with hRdata := 0 } := rfl
      _ = ({ s.started with hRdata := 0 } : State).embed { t.started with hRdata := 0 } := by
        rw [hp.slaveAddr hwf hs.1]
        rfl

end

/-- Settles O47: both modes start, and stay, at the same point of the transaction. -/
theorem addressModesAreEquivalent : Obligations.AddressModesAreEquivalent := by
  intro s t n hp hwf hs hr
  obtain ⟨s', t', hgo, hgo', h, hin⟩ := hp.go hwf hs
  obtain ⟨u, v, hu, hv, htrace, huv⟩ := h.run n fun k hk => hin k ▸ hr k hk
  exact ⟨s', t', u, v, hgo, hgo', hu, hv, htrace, huv.sameView⟩

end Sys2Proof.Machine
end

section
/-! PROOFS. What a failure leaves (R210 to R220): the fatal abort of a set op, the block at rest after it, and the bus after
any other failure. -/

namespace Sys2Proof.Machine

/-- Settles O15: the four set ops take the same branch on a failing write. -/
theorem failedLineWriteTakesFatalAbort : Obligations.FailedLineWriteTakesFatalAbort := by
  intro s i hi hw
  have aborts {i : Instr} {g : State → State}
      (h : ∀ s : State, exec i s = .next (if s.cur.ioWrErr then s.fatalAbort else g s)) : exec i s = .next s.fatalAbort :=
    (h s).trans (congrArg _ (if_pos hw))
  rcases hi with rfl | rfl | rfl | rfl
  · exact aborts sclLoDrivesSclLow.2
  · exact aborts sclHiReleasesOrDrivesSclHigh.2
  · exact aborts sdaLoDrivesSdaLow.2
  · exact aborts sdaHiReleasesSda.2

/-! ### The engine at rest (R172, R220) -/

/-- A request that is no accepted GO writes the descriptor, `TXBUF` and the read data at most (R64, R67). -/
theorem HostMove.writes_host_fields {s r : State} (hm : HostMove s r) (hg : s.acceptsGo = false) :
    r = { s with
      cfg := r.cfg, addr := r.addr, wlen := r.wlen, rlen := r.rlen, retry := r.retry, wait := r.wait, qdelay := r.qdelay
      txbuf := r.txbuf, hRdata := r.hRdata } := by
  cases hm with
  | none | read | ignored | cmdNothing | goIgnored => rfl
  | store =>
    obtain ⟨_, _, _, _, _, _, _, _, hs, -⟩ := hostStore_frame s.noReadData s.cur.hIdx s.cur.hWdata
    rw [hs]
    rfl
  | goRejected hs hw hb hi hbit hq hf | goAccepted hs hw hb hi hbit hq hf =>
    rw [(acceptsGo_iff s).mpr ⟨hs, hw, hi, hbit, hb, hq, hf⟩] at hg
    cases hg

/-- Settles O9: with the engine at rest the cycle is the host's request, with the clock moved. -/
theorem restingEngineChangesNothing : Obligations.RestingEngineChangesNothing := by
  intro s t hr hq hg hstep
  have hrest : s.seq.engineIdle = true := (Seq.engineIdle_iff _).mpr (hq.imp_right And.left)
  obtain ⟨r, hm, rfl⟩ := step_rest hr hrest hstep
  exact congrArg State.closeCycle (hm.writes_host_fields hg)

/-! ### The end in a failure (R217) -/

/-- A move that ends the transaction in a failure, the fatal abort apart, does so before a byte is received. -/
theorem EngineMove.fails_before_receiving {s e : State} (hm : EngineMove s e) (h : Inv s) (hb : s.busy = true)
    (hbusy : e.busy = false) (hfault : e.fault = false) (hcode : e.failCode ≠ .none) : e.rxcnt = 0 := by
  have hrun : s.seq.engineIdle = false := h.busy_iff.mp hb
  cases hm with
  | abStopEnd hq | retriesOut hq => exact h.rxcnt_zero hrun (by simp [hq]) (by simp [hq])
  | wStopEnd hq | rStopEnd hq => exact absurd (h.no_failure hrun (by simp [hq])) hcode
  | abort => cases hfault
  | _ => simp [hb] at hbusy

/-- Settles O44: the invariant of the next state frees the bus, the move that ends the transaction gives the rest. -/
theorem failureLeavesTheBusFree : Obligations.FailureLeavesTheBusFree := by
  intro s t h hr hb hstep hbusy hfault hcode
  have ht : Inv t := h.step hstep
  have hrest : t.seq.engineIdle = true := by simpa [hbusy] using ht.busy_iff
  have hnofault : t.seq ≠ .fault := fun hq => by simp [ht.control.faultIff.mpr hq] at hfault
  have hidle : t.seq = .idle := ((Seq.engineIdle_iff _).mp hrest).resolve_right hnofault
  have hok : t.ok = false := Bool.eq_false_iff.mpr fun hok => hcode (ht.control.okDone hok).2
  obtain ⟨hscl, hsda, hopen⟩ := ht.lines_resting hrest
  obtain ⟨e, x, hm, rfl⟩ := step_busy hr hb (h.busy_iff.mp hb) hstep
  have hdone : e.done = true := by
    rcases hm.ends_or_goes_on h hb with ⟨-, hdone⟩ | ⟨hgoes, -⟩
    · exact hdone
    · exact absurd hgoes (by simpa using hbusy)
  obtain ⟨hcfg, haddr, hwlen, hrlen, hretry, hwait, hqdelay, htx, -⟩ := hm.keeps_host
  exact ⟨hidle, hdone, hok, hopen hnofault, hscl, hsda, hm.fails_before_receiving h hb hbusy hfault hcode, hcfg, haddr,
    hwlen, hrlen, hretry, hwait, hqdelay, htx⟩

end Sys2Proof.Machine
end

section
/-! PROOFS. The parts of a transaction as runs (R250): a byte command from its first cycle to its completion, the transaction
going on meanwhile. -/

namespace Sys2Proof.Machine

/-! ### The cycles of a byte command still ahead -/

/-- The cycles until the completion step of the running byte command is due, when nothing fails: the rest of the tail, then
the line ops ahead with their tails (R249). -/
def State.commandAhead (s : State) : Nat := s.dly.toNat + (s.opTime s.bop.len - s.opTime s.ustep.toNat)

theorem opTime_mono (s : State) : Monotone s.opTime := monotone_nat_of_le_succ fun _ => Nat.le_add_right _ _

/-- The command and the delay alone decide when a line op is due (R249). -/
theorem opTime_congr {s t : State} (hb : t.bop = s.bop) (hc : t.opCycles = s.opCycles) (u : Nat) :
    t.opTime u = s.opTime u := by
  induction u with
  | zero => rfl
  | succ u ih => rw [State.opTime, State.opTime, ih, hb, hc]

theorem commandAhead_later (s : State) (n : Nat) (x : Reg) : (s.later n x).commandAhead = s.commandAhead := by
  have htime := opTime_congr (s := s) (t := s.later n x) rfl rfl
  rw [State.commandAhead, htime, htime]
  rfl

/-- A cycle of the tail takes one cycle off those ahead. -/
theorem commandAhead_delay {s : State} (hd : s.dly ≠ 0) :
    ({ s with dly := s.dly - 1 } : State).commandAhead + 1 = s.commandAhead := by
  have htime := opTime_congr (s := s) (t := { s with dly := s.dly - 1 }) rfl rfl
  rw [State.commandAhead, State.commandAhead, htime, htime]
  bv_omega

/-- So does the cycle of a line op, which leaves its tail ahead. -/
theorem commandAhead_lineOp {s : State} (hd : s.dly = 0) (hu : s.ustep.toNat < s.bop.len) :
    s.lineOp.afterUop.commandAhead + 1 = s.commandAhead := by
  have htime := opTime_congr (s := s) (t := s.lineOp.afterUop) (by simp) (by simp [State.opCycles, State.quarter])
  have hnext : s.opTime (s.ustep.toNat + 1) = s.opTime s.ustep.toNat + (1 + s.lineOp.dly.toNat) := by
    rw [lineOp_cycles, State.opTime, State.lop]
    simp only [uop_eq_sdaRd_iff hu]
  have hle : s.opTime (s.ustep.toNat + 1) ≤ s.opTime s.bop.len := opTime_mono s hu
  have hzero : s.dly.toNat = 0 := congrArg BitVec.toNat hd
  rw [State.commandAhead, State.commandAhead, htime, htime, afterUop_ustep_toNat hu, State.afterUop_dly, State.afterUop_bop,
    lineOp_bop]
  omega

/-- A byte command with cycles ahead has a tail running or a line op left. -/
theorem ustep_lt_of_commandAhead {s : State} (hd : s.dly = 0) (h : 0 < s.commandAhead) : s.ustep.toNat < s.bop.len := by
  by_contra hu
  have hle : s.opTime s.bop.len ≤ s.opTime s.ustep.toNat := opTime_mono s (Nat.le_of_not_lt hu)
  rw [State.commandAhead, Nat.sub_eq_zero_of_le hle, hd] at h
  exact Nat.lt_irrefl 0 h

/-- A cycle of a byte command before its completion leaves one cycle less ahead, and the transaction goes on. -/
theorem step_command {s : State} (hq : s.seq.command.isSome = true) (hb : s.busy = true) (hn : 0 < s.commandAhead)
    (hr : s.cur.rst = false) (hw : s.cur.ioWrErr = false) :
    ∃ t, step s = .next t ∧ t.commandAhead + 1 = s.commandAhead ∧ t.seq = s.seq ∧ t.busy = s.busy ∧ t.done = s.done
      ∧ ∀ k, t.inputAt k = s.inputAt (1 + k) := by
  by_cases hd : s.dly = 0
  · have hu := ustep_lt_of_commandAhead hd hn
    refine ⟨_, step_lineOp hq hb hd hu hr hw, ?_, lineOp_seq s, lineOp_busy s, lineOp_done s, fun k => ?_⟩
    · rw [commandAhead_later, commandAhead_lineOp hd hu]
    · exact (inputAt_later _ _ _ k).trans (inputAt_congr (lineOp_ins s) (lineOp_cycle s) _)
  · refine ⟨_, step_delay_busy hr hb hq hd, ?_, rfl, rfl, rfl, inputAt_later _ _ _⟩
    rw [commandAhead_later, commandAhead_delay hd]

/-- Up to its completion step a byte command keeps the transaction going; by induction on the number of cycles. -/
theorem run_command {s : State} {k : Nat} (hq : s.seq.command.isSome = true) (hb : s.busy = true) (hk : k ≤ s.commandAhead)
    (h : s.quietFor k) : ∃ v, run k s = .next v ∧ v.busy = true ∧ v.done = s.done := by
  induction k generalizing s with
  | zero => exact ⟨s, rfl, hb, rfl⟩
  | succ k ih =>
    obtain ⟨hr, hw⟩ := h 0 k.succ_pos
    obtain ⟨t, hstep, hahead, hseq, hbusy, hdone, hin⟩ := step_command hq hb (k.succ_pos.trans_le hk) hr hw
    obtain ⟨v, hrun, hvb, hvd⟩ := ih (hseq ▸ hq) (hbusy.trans hb) (by omega) fun j hj => hin j ▸ h (1 + j) (by omega)
    exact ⟨v, (run_succ_of_step hstep).trans hrun, hvb, hvd.trans hdone⟩

/-! ### A part of a transaction -/

/-- `t` comes `n` cycles after `s`, and the transaction goes on in each of them. -/
structure GoesOn (s : State) (n : Nat) (t : State) : Prop where
  run : run n s = .next t
  busy : ∀ k < n, ∃ v, Machine.run k s = .next v ∧ v.busy = true ∧ v.done = false

/-- Two parts, one after the other. -/
theorem GoesOn.trans {s t u : State} {m n : Nat} (h : GoesOn s m t) (h' : GoesOn t n u) : GoesOn s (m + n) u where
  run := by rw [run_add, h.run, andThen_next, h'.run]
  busy k hk := by
    by_cases hm : k < m
    · exact h.busy k hm
    · obtain ⟨v, hv, hvb⟩ := h'.busy (k - m) (by omega)
      refine ⟨v, ?_, hvb⟩
      rw [← Nat.add_sub_of_le (Nat.le_of_not_lt hm), run_add, h.run, andThen_next, hv]

/-- A sequencer state that runs a byte command, from its entry to the end of its completion step: the list of line ops and
one cycle. -/
theorem CommandStart.goesOn {s t e : State} {n : Nat} (h : CommandStart s) (hdone : s.done = false)
    (hn : s.commandCycles s.bop = n) (hq : s.quietFor (n + 1)) (ht : s.beforeOp s.bop.len = t)
    (hc : ∀ x, complete (t.later n x) = .next (e.later n x)) : ∃ x, GoesOn s (n + 1) (e.later (n + 1) x) := by
  have hcommand : s.seq.command.isSome = true := by rw [h.command]; rfl
  obtain ⟨x, hrun⟩ := h.run_end hn (fun k hk => hq k (by omega)) ht
  have hseq : (t.later n x).seq = s.seq := by rw [← ht]; exact beforeOp_seq s _
  have hdue : (t.later n x).completing = true := by
    subst ht
    refine completing_of (b := s.bop) (hseq ▸ h.command) ((beforeOp_dly s _).trans h.dly) (Nat.not_lt.mpr ?_)
    exact ((congrArg Bop.len (beforeOp_bop s _)).trans (h.ustep_toNat le_rfl).symm).le
  have hr : (t.later n x).cur.rst = false := by
    rw [← ht, cur_later, inputAt_congr (beforeOp_ins s _) (beforeOp_cycle s _)]
    exact (hq n n.lt_succ_self).1
  have hb : (t.later n x).busy = true := by rw [← ht]; exact (beforeOp_busy s _).trans h.busy
  obtain ⟨e', he, hm, hstep⟩ := step_eq_endCycle hr hb (Seq.engineIdle_of_command (hseq ▸ hcommand))
  rw [engineStep_of_completing hdue, hc] at he
  cases he
  rw [hm.endCycle, later_later] at hstep
  refine ⟨_, by rw [run_add, hrun, andThen_next, run_succ_of_step hstep, run_zero], fun k hk => ?_⟩
  have hahead : s.commandAhead = n := by
    rw [← hn, ← opTime_len, State.commandAhead, h.dly, h.ustep]
    exact Nat.zero_add _
  obtain ⟨v, hv, hvb, hvd⟩ := run_command (k := k) hcommand h.busy (by omega) fun j hj => hq j (by omega)
  exact ⟨v, hv, hvb, hvd.trans hdone⟩

end Sys2Proof.Machine
end

section
/-! PROOFS. The transaction that no slave answers (R212, R250): its four parts, and their cycles added up. -/

namespace Sys2Proof.Machine

/-! ### The inputs of a part -/

theorem quietFor_left {s : State} {m n : Nat} (h : s.quietFor (m + n)) : s.quietFor m :=
  fun k hk => h k (Nat.lt_add_right n hk)

theorem quietFor_later {s : State} {m n : Nat} (x : Reg) (h : s.quietFor (m + n)) : (s.later m x).quietFor n := by
  intro k hk
  rw [inputAt_later]
  exact h _ (Nat.add_lt_add_left hk m)

theorem sampleAt_later (s : State) (m : Nat) (x : Reg) (k : Nat) : (s.later m x).sampleAt k = s.sampleAt (m + k) := by
  rw [State.sampleAt, State.sampleAt, inputAt_later]

/-! ### The four parts -/

/-- An address byte that is not acknowledged fails (R177, R212). -/
theorem complete_wAddr_nak {s : State} (hq : s.seq = .wAddr) (ha : s.ack = false) (hi : s.ignoreNak = false) :
    complete s = .next ((s.noteNak.raiseFail .wAddrNak 0 s.bdata).entered .abStop 0) := by
  rw [complete_wAddr hq, completeWAddr, if_pos ⟨ha, hi⟩, enter_eq]

/-- What the address byte leaves when nothing acknowledges it, `S_ABSTOP` about to be entered (R149, R177). -/
def State.unanswered (s : State) : State :=
  ({ s with
    sclDir := .out, sclVal := false, sdaDir := .inp, ack := false
    rderrSeen := s.rderrSeen || (s.inputAt (34 * s.opCycles)).ioRdErr } : State).noteNak.raiseFail .wAddrNak 0
      (addressByte s.a7 false)

section
variable {s : State} (hb : s.busy = true) (hdone : s.done = false) (hd : s.dly = 0)
include hb hdone hd

/-- From `S_INIT` to `S_WSTART` (R176). -/
theorem init_goesOn (hq : s.quietFor (2 * s.opCycles + 1)) : ∃ d v e x,
    GoesOn (s.entered .init 0) (2 * s.opCycles + 1)
      ((({ s with sclDir := d, sclVal := v, sdaDir := e } : State).entered .wStart 0).later (2 * s.opCycles + 1) x) := by
  have h : CommandStart (s.entered .init 0) := ⟨rfl, hb, hd, rfl⟩
  exact ⟨_, _, _, h.goesOn hdone rfl hq (beforeOp_bInit (s.setPc .init 0)) fun _ => enter_eq .wStart 0 _⟩

/-- From `S_WSTART` to `S_WADDR` (R176). -/
theorem wStart_goesOn (hq : s.quietFor (4 * s.opCycles + 1)) : ∃ d v e o x,
    GoesOn (s.entered .wStart 0) (4 * s.opCycles + 1)
      ((({ s with sclDir := d, sclVal := v, sdaDir := e, startOpen := o } : State).entered .wAddr 0).later
        (4 * s.opCycles + 1) x) := by
  have h : CommandStart (s.entered .wStart 0) := ⟨rfl, hb, hd, rfl⟩
  exact ⟨_, _, _, _, h.goesOn hdone rfl hq (beforeOp_bStart (s.setPc .wStart 0)) fun _ => enter_eq .wAddr 0 _⟩

/-- From `S_WADDR` to `S_ABSTOP`, when the address byte is not acknowledged and NAKs are not ignored (R177, R212). -/
theorem wAddr_nak_goesOn (hi : s.ignoreNak = false) (hq : s.quietFor (35 * s.opCycles + 2))
    (hs : s.sampleAt (34 * s.opCycles) = true) : ∃ x,
    GoesOn (s.entered .wAddr 0) (35 * s.opCycles + 2) ((s.unanswered.entered .abStop 0).later (35 * s.opCycles + 2) x) := by
  have h : CommandStart (s.entered .wAddr 0) := ⟨rfl, hb, hd, rfl⟩
  have hend := CommandStart.beforeOp_bOut (s := s.setPc .wAddr 0) h
  have hs' : (s.setPc .wAddr 0).sampleAt (34 * (s.setPc .wAddr 0).opCycles) = true := hs
  rw [hs'] at hend
  exact h.goesOn hdone rfl hq hend fun _ => complete_wAddr_nak rfl rfl hi

/-- From `S_ABSTOP` to `S_IDLE`, both lines high (R180, R153). -/
theorem abStop_goesOn (hq : s.quietFor (4 * s.opCycles + 1)) : ∃ d v x, (d = .inp ∨ v = true) ∧
    GoesOn (s.entered .abStop 0) (4 * s.opCycles + 1)
      ((({ s with
        bop := .stop, bdata := 0, blast := false, sclDir := d, sclVal := v, sdaDir := .inp
        startOpen := false } : State).finish false).later (4 * s.opCycles + 1) x) := by
  have h : CommandStart (s.entered .abStop 0) := ⟨rfl, hb, hd, rfl⟩
  have hlines : (if s.cfg.getLsbD 0 then Dir.out else Dir.inp) = .inp ∨ s.cfg.getLsbD 0 = true := by
    cases s.cfg.getLsbD 0 <;> simp
  obtain ⟨x, hx⟩ := h.goesOn hdone rfl hq (beforeOp_bStop (s.setPc .abStop 0)) (e := State.finish _ false) fun _ => rfl
  exact ⟨_, _, x, hlines, hx⟩

/-- From `S_INIT` to `S_WADDR`. -/
theorem address_goesOn (hq : s.quietFor ((2 * s.opCycles + 1) + (4 * s.opCycles + 1))) : ∃ d v e o x,
    GoesOn (s.entered .init 0) ((2 * s.opCycles + 1) + (4 * s.opCycles + 1))
      ((({ s with sclDir := d, sclVal := v, sdaDir := e, startOpen := o } : State).entered .wAddr 0).later
        ((2 * s.opCycles + 1) + (4 * s.opCycles + 1)) x) := by
  obtain ⟨d, v, e, x, hinit⟩ := init_goesOn hb hdone hd (quietFor_left hq)
  obtain ⟨d', v', e', o, y, hstart⟩ := wStart_goesOn
    (s := ({ s with sclDir := d, sclVal := v, sdaDir := e } : State).later (2 * s.opCycles + 1) x) hb hdone hd
    (quietFor_later x hq)
  refine ⟨d', v', e', o, y, ?_⟩
  rw [← later_later _ _ _ x]
  exact hinit.trans hstart

/-- From `S_WADDR` to `S_IDLE`, when nothing acknowledges the address byte. -/
theorem absentSlave_goesOn (hi : s.ignoreNak = false) (hq : s.quietFor ((35 * s.opCycles + 2) + (4 * s.opCycles + 1)))
    (hs : s.sampleAt (34 * s.opCycles) = true) : ∃ d v x, (d = .inp ∨ v = true) ∧
    GoesOn (s.entered .wAddr 0) ((35 * s.opCycles + 2) + (4 * s.opCycles + 1))
      ((({ s.unanswered with
        bop := .stop, bdata := 0, blast := false, sclDir := d, sclVal := v, sdaDir := .inp
        startOpen := false } : State).finish false).later ((35 * s.opCycles + 2) + (4 * s.opCycles + 1)) x) := by
  obtain ⟨x, haddr⟩ := wAddr_nak_goesOn hb hdone hd hi (quietFor_left hq) hs
  obtain ⟨d, v, y, hscl, hstop⟩ := abStop_goesOn (s := s.unanswered.later (35 * s.opCycles + 2) x) hb hdone hd
    (quietFor_later x hq)
  refine ⟨d, v, y, hscl, ?_⟩
  rw [← later_later _ _ _ x]
  exact haddr.trans hstop

end

/-! ### The transaction -/

/-- Settles O49: from the GO to the address byte, and from there to the end. -/
theorem absentSlaveFailsAtTheAddress : Obligations.AbsentSlaveFailsAtTheAddress := by
  intro s hready hlegal hignore hquiet hsample
  have hgo := exec_transaction_started hready hlegal
  obtain ⟨-, -, -, hd⟩ := hready
  have hcycles : s.writeCycles 0 =
      ((2 * s.opCycles + 1) + (4 * s.opCycles + 1)) + ((35 * s.opCycles + 2) + (4 * s.opCycles + 1)) := by
    rw [State.writeCycles]
    omega
  have hnak := hsample ((2 * s.opCycles + 1) + (4 * s.opCycles + 1) + 34 * s.opCycles) (by omega)
  rw [hcycles] at hquiet ⊢
  obtain ⟨d, v, e, o, x, haddr⟩ := address_goesOn
    (s := { s.clearResults with busy := true, a7 := s.slaveAddr, hRdata := 0 }) rfl rfl hd (quietFor_left hquiet)
  obtain ⟨_, _, _, hscl, hend⟩ := absentSlave_goesOn
    (s := ({ s.clearResults with
      busy := true, a7 := s.slaveAddr, hRdata := 0, sclDir := d, sclVal := v, sdaDir := e, startOpen := o } : State).later
        ((2 * s.opCycles + 1) + (4 * s.opCycles + 1)) x)
    rfl rfl hd hignore (quietFor_later x hquiet) ((sampleAt_later _ _ _ _).trans hnak)
  have h := haddr.trans hend
  exact ⟨_, _, hgo, h.run, h.busy, rfl, rfl, rfl, rfl, rfl, rfl, rfl, rfl, rfl, hscl, rfl, rfl⟩

end Sys2Proof.Machine
end

section
/-! PROOFS. The step as `Tick` (R240, R246): a reset cycle, a cycle with the engine at rest, and that no step stops the block
or changes a parameter. -/

namespace Sys2Proof.Machine

/-- The engine changes no parameter (R5). -/
theorem EngineMove.par {s e : State} (hm : EngineMove s e) : e.par = s.par := by
  cases hm <;> simp

/-- Nor does the host (R5). -/
theorem HostMove.par {s r : State} (hm : HostMove s r) : r.par = s.par := by
  cases hm <;> simp

/-- A cycle with `rst = 1` is a reset, whatever else its inputs are (R240). -/
theorem step_reset {s : State} (hr : s.cur.rst = true) : step s = .next s.restart := if_pos hr

/-- Settles O3: a reset keeps the parameters, and so do the request and the move that are joined in any other cycle. -/
theorem stepAlwaysAnswersNext : Obligations.StepAlwaysAnswersNext := by
  intro s
  by_cases hr : s.cur.rst = true
  · exact ⟨_, step_reset hr, rfl⟩
  · obtain ⟨r, hpart, hhost⟩ := hostPart_move s
    obtain ⟨e, hengine, hm⟩ := engineStep_move s
    refine ⟨_, step_of_parts (by simpa using hr) hpart hengine, ?_⟩
    rw [State.closeCycle_par, joinWrites]
    split_ifs
    · exact hhost.par
    · exact hm.par

/-- A reset takes every register to its value of R47 and leaves no byte of the buffers written (R241). -/
theorem restart_resetValues (s : State) : ResetValues s.restart :=
  ⟨⟨rfl, rfl, rfl, rfl⟩, ⟨rfl, rfl, rfl, rfl⟩, ⟨rfl, rfl, rfl, rfl, rfl, rfl, rfl, rfl⟩, ⟨rfl, rfl, rfl, rfl, rfl, rfl, rfl⟩,
    ⟨rfl, rfl, rfl, rfl, rfl, rfl, rfl, rfl⟩, ⟨rfl, rfl, rfl⟩, fun _ => ⟨rfl, rfl⟩, rfl⟩

/-- Settles O2: the cycle is a reset. -/
theorem resetInputOverridesEverything : Obligations.ResetInputOverridesEverything :=
  fun s hr => ⟨_, step_reset hr, restart_resetValues s, rfl, rfl, rfl⟩

/-- Settles O4: the request of the port is decoded and run alone; without one the cycle is silent. -/
theorem restingCycleRunsTheHostRequest : Obligations.RestingCycleRunsTheHostRequest := by
  intro s hr hq
  constructor
  · intro hsel
    obtain ⟨t, hexec, hstep⟩ := step_request hr hsel ((Seq.engineIdle_iff _).mpr hq) rfl
    exact ⟨_, t, decode_host _, hexec, hstep⟩
  · intro hsel
    have hengine : engineStep s = .next s := by
      rw [engineStep]
      rcases hq with hq | hq <;> rw [hq]
    exact step_silent hr hsel hengine

end Sys2Proof.Machine
end

section
/-! PROOFS. The transaction with SDA held low (R250, R254): every sample is an ACK or a 0, and its parts, one after another,
take the cycles of the cost formula. -/

namespace Sys2Proof.Machine

/-! ### A bus whose SDA is held low -/

/-- In the next `n` cycles SDA is low and no line fails (R254), and there is no reset. -/
def State.stuckLowFor (s : State) (n : Nat) : Prop :=
  ∀ k < n, (s.inputAt k).rst = false ∧ (s.inputAt k).sdaI = false ∧ (s.inputAt k).ioRdErr = false
    ∧ (s.inputAt k).ioWrErr = false

section
variable {s : State} {m n : Nat}

theorem stuckLowFor_left (h : s.stuckLowFor (m + n)) : s.stuckLowFor m := fun k hk => h k (Nat.lt_add_right n hk)

theorem stuckLowFor_later (x : Reg) (h : s.stuckLowFor (m + n)) : (s.later m x).stuckLowFor n := by
  intro k hk
  rw [inputAt_later]
  exact h _ (Nat.add_lt_add_left hk m)

theorem State.stuckLowFor.quietFor (h : s.stuckLowFor n) : s.quietFor n := fun k hk =>
  let ⟨hr, _, _, hw⟩ := h k hk
  ⟨hr, hw⟩

/-- Every sample is 0 (R127). -/
theorem State.stuckLowFor.sampleAt (h : s.stuckLowFor n) {k : Nat} (hk : k < n) : s.sampleAt k = false := by
  obtain ⟨-, hsda, hrd, -⟩ := h k hk
  rw [State.sampleAt, hsda, hrd]
  rfl

theorem State.stuckLowFor.ioRdErr (h : s.stuckLowFor n) {k : Nat} (hk : k < n) : (s.inputAt k).ioRdErr = false :=
  let ⟨_, _, hrd, _⟩ := h k hk
  hrd

end

/-! ### From one point of the transaction to another -/

/-- `s` at the time of `t`: the clock and the read data, the lines and the acknowledge are those of `t`. -/
def State.movedTo (s t : State) : State :=
  { s with
    sclDir := t.sclDir, sclVal := t.sclVal, sdaDir := t.sdaDir, startOpen := t.startOpen, ack := t.ack
    hRdata := t.hRdata, ins := t.ins, cycle := t.cycle }

/-- With SDA held low the transaction goes from `s` to `e` in `n` cycles, whatever the lines and the clock are at `s`; at `e`
they are those of some `t`. -/
def Leads (s : State) (n : Nat) (e : State) : Prop :=
  ∀ t m, (s.movedTo t).stuckLowFor (n + m) → ∃ u, GoesOn (s.movedTo t) n (e.movedTo u) ∧ (e.movedTo u).stuckLowFor m

theorem Leads.trans {s e e' : State} {m n : Nat} (h : Leads s m e) (h' : Leads e n e') : Leads s (m + n) e' := by
  intro t l hlow
  obtain ⟨u, hu, hlow'⟩ := h t (n + l) (by rwa [← Nat.add_assoc])
  obtain ⟨v, hv, hlow''⟩ := h' u l hlow'
  exact ⟨v, hu.trans hv, hlow''⟩

/-- Points that follow each other every `c` cycles. -/
theorem Leads.iterate {f : Nat → State} {c n m : Nat} {s : State} (h0 : Leads s m (f 0))
    (h : ∀ i < n, Leads (f i) c (f (i + 1))) : Leads s (m + n * c) (f n) := by
  induction n with
  | zero => rwa [Nat.zero_mul]
  | succ n ih =>
    rw [Nat.succ_mul, ← Nat.add_assoc]
    exact (ih fun i hi => h i (Nat.lt_succ_of_lt hi)).trans (h n n.lt_succ_self)

/-- A byte command leads from its first cycle to what its completion step leaves. -/
theorem CommandStart.leads {s e : State} {n : Nat} (h : CommandStart s) (hdone : s.done = false)
    (hn : s.commandCycles s.bop = n)
    (hend : ∀ t, (s.movedTo t).stuckLowFor (n + 1) → ∃ u, (s.movedTo t).beforeOp s.bop.len = u ∧
      ∀ x, complete (u.later n x) = .next (e.movedTo (u.later n x))) : Leads s (n + 1) e := by
  intro t m hlow
  have h' : CommandStart (s.movedTo t) := ⟨h.command, h.busy, h.dly, h.ustep⟩
  obtain ⟨u, hu, hc⟩ := hend t (stuckLowFor_left hlow)
  obtain ⟨x, hx⟩ := h'.goesOn (e := e.movedTo u) hdone hn (stuckLowFor_left hlow).quietFor hu hc
  refine ⟨u.later (n + 1) x, hx, fun k hk => ?_⟩
  have hin : (u.later (n + 1) x).inputAt k = (s.movedTo t).inputAt (n + 1 + k) := by
    rw [inputAt_later, ← hu, inputAt_congr (beforeOp_ins _ _) (beforeOp_cycle _ _)]
  exact hin ▸ hlow _ (Nat.add_lt_add_left hk _)

/-! ### What the commands leave -/

/-- `B_OUT` after its last line op, its byte acknowledged (R148, R149). -/
def State.acked (s : State) : State := { s.atOp 36 .out false .inp s.startOpen with ack := true }

/-- A byte sent is acknowledged (R149). -/
theorem CommandStart.beforeOp_acked {s : State} {data : Byte} (h : CommandStart (s.startCommand .out false data))
    (hlow : s.stuckLowFor (35 * s.opCycles + 2)) :
    (s.startCommand .out false data).beforeOp 36 = (s.startCommand .out false data).acked := by
  have hk : 34 * s.opCycles < 35 * s.opCycles + 2 := by omega
  rw [h.beforeOp_bOut, hlow.sampleAt hk, hlow.ioRdErr hk, Bool.or_false]
  rfl

theorem shiftedIn_eq_zero {f : Nat → Bool} {n : Nat} (h : ∀ i < n, f i = false) : shiftedIn f n = 0 := by
  induction n with
  | zero => rfl
  | succ n ih =>
    rw [shiftedIn, ih fun i hi => h i (Nat.lt_succ_of_lt hi), h n n.lt_succ_self]
    rfl

/-- `B_IN` after its last line op, its byte received as 0 (R151, R152). -/
def State.byteRead (s : State) : State := s.atOp 28 .out false (levelDir s.blast) s.startOpen

/-- A byte received is 0 (R152, R254). -/
theorem CommandStart.beforeOp_byteRead {s : State} {last : Bool} (h : CommandStart (s.startCommand .inp last 0))
    (hlow : s.stuckLowFor (20 * s.opCycles + 9)) :
    (s.startCommand .inp last 0).beforeOp 28 = (s.startCommand .inp last 0).byteRead := by
  let t := s.startCommand .inp last 0
  have hk {i : Nat} (hi : i < 8) : t.readTime i < 20 * s.opCycles + 9 := by
    have hmul : i * (2 * s.opCycles + 1) ≤ 7 * (2 * s.opCycles + 1) := Nat.mul_le_mul_right _ (by omega)
    have htime : t.readTime i = 2 * s.opCycles + i * (2 * s.opCycles + 1) := rfl
    omega
  have hbits : t.bitsRead 8 = 0 := shiftedIn_eq_zero fun i hi => hlow.sampleAt (hk hi)
  have herrors : t.readErrors 8 = s.rderrSeen := by
    have hany : (List.range 8).any (fun j => (t.inputAt (t.readTime j)).ioRdErr) = false :=
      List.any_eq_false.mpr fun j hj => by
        rw [show (t.inputAt (t.readTime j)).ioRdErr = false from hlow.ioRdErr (hk (List.mem_range.mp hj))]
        decide
    rw [State.readErrors, hany, Bool.or_false]
    rfl
  rw [h.beforeOp_bIn, State.received, hbits, herrors]
  rfl

/-! ### The completions that an ACK decides -/

/-- An index register that holds `i` (R26). -/
theorem index_eq {x : BitVec 9} {i : Nat} (hx : x = BitVec.ofNat 9 i) (hlt : i < 512) :
    x.toNat = i ∧ x + 1 = BitVec.ofNat 9 (i + 1) := by
  subst hx
  exact ⟨(BitVec.toNat_ofNat i 9).trans (Nat.mod_eq_of_lt hlt), (BitVec.ofNat_add i 1).symm⟩

theorem noteNak_of_ack {s : State} (h : s.ack = true) : s.noteNak = s := by
  have hseen : (s.nakSeen || !s.ack) = s.nakSeen := by rw [h]; exact Bool.or_false _
  rw [State.noteNak, hseen]

section
variable {s : State} (ha : s.ack = true)
include ha

theorem complete_wAddr_of_payload (hq : s.seq = .wAddr) (hw : s.first < s.wlen.toNat) :
    complete s = .next (({ s with widx := BitVec.ofNat 9 s.first } : State).entered .wData (BitVec.ofNat 9 s.first)) := by
  rw [complete_wAddr hq, completeWAddr, if_neg (by simp [ha]), if_pos hw, noteNak_of_ack ha, enter_eq]

theorem complete_wAddr_of_no_payload (hq : s.seq = .wAddr) (hw : s.wlen.toNat ≤ s.first) :
    complete s = .next (s.entered .wStop 0) := by
  rw [complete_wAddr hq, completeWAddr, if_neg (by simp [ha]), if_neg hw.not_gt, noteNak_of_ack ha, enter_eq]

theorem complete_wData_of_next {i : Nat} (hq : s.seq = .wData) (hi : s.widx = BitVec.ofNat 9 i) (hlt : i < 512)
    (hw : i + 1 < s.wlen.toNat) : complete s =
      .next (({ s with widx := BitVec.ofNat 9 (i + 1) } : State).entered .wData (BitVec.ofNat 9 (i + 1))) := by
  obtain ⟨hidx, hnext⟩ := index_eq hi hlt
  rw [complete_wData hq, completeWData, if_neg (by simp [ha]), hidx, hnext, if_pos hw, noteNak_of_ack ha, enter_eq]

theorem complete_wData_of_last {i : Nat} (hq : s.seq = .wData) (hi : s.widx = BitVec.ofNat 9 i) (hlt : i < 512)
    (hw : s.wlen.toNat ≤ i + 1) : complete s = .next (s.entered .wStop 0) := by
  obtain ⟨hidx, -⟩ := index_eq hi hlt
  rw [complete_wData hq, completeWData, if_neg (by simp [ha]), hidx, if_neg hw.not_gt, noteNak_of_ack ha, enter_eq]

theorem complete_rAddr_of_ack (hq : s.seq = .rAddr) :
    complete s = .next (({ s with ridx := 0 } : State).entered .rData 0) := by
  rw [complete_rAddr hq, completeRAddr, if_pos ha, enter_eq]

end

/-! ### The completions of the STOPs and of a received byte -/

section
variable {s : State}

theorem complete_wStop_of_read (hq : s.seq = .wStop) (hr : s.rlen ≠ 0) : complete s = .next (s.entered .preWait 0) := by
  rw [complete_wStop hq, completeWStop, if_neg hr, enter_eq]

theorem complete_of_last_stop (hq : s.seq = .wStop ∧ s.rlen = 0 ∨ s.seq = .rStop) : complete s = .next (s.finish true) := by
  rcases hq with ⟨hq, hr⟩ | hq
  · rw [complete_wStop hq, completeWStop, if_pos hr]
  · rw [complete, hq]

variable {i : Nat} (hi : s.ridx = BitVec.ofNat 9 i) (hlt : i < 512) (hz : s.bdata = 0)
include hi hlt hz

theorem complete_rData_of_next (hq : s.seq = .rData) (hr : i + 1 < s.rlen.toNat) : complete s =
    .next (({ s with
      rxbuf := Memory.write s.rxbuf i 0, rxcnt := BitVec.ofNat 9 (i + 1), ridx := BitVec.ofNat 9 (i + 1) } : State).entered
        .rData (BitVec.ofNat 9 (i + 1))) := by
  obtain ⟨hidx, hnext⟩ := index_eq hi hlt
  rw [complete_rData hq, completeRData, hidx, hnext, hz, if_pos hr, enter_eq]

theorem complete_rData_of_last (hq : s.seq = .rData) (hr : s.rlen.toNat ≤ i + 1) :
    complete s = .next (({ s with
      rxbuf := Memory.write s.rxbuf i 0, rxcnt := BitVec.ofNat 9 (i + 1) } : State).entered .rStop 0) := by
  obtain ⟨hidx, hnext⟩ := index_eq hi hlt
  rw [complete_rData hq, completeRData, hidx, hnext, hz, if_neg hr.not_gt, enter_eq]

end

/-! ### The bytes sent and received -/

/-- At the start of the payload byte at index `i` (R175, R178). -/
def State.sending (s : State) (i : Nat) : State :=
  ({ s with widx := BitVec.ofNat 9 i } : State).entered .wData (BitVec.ofNat 9 i)

/-- A buffer when its first `i` bytes have been received as 0 (R187). -/
def Memory.zeroed (m : Memory) : Nat → Memory
  | 0 => m
  | i + 1 => Memory.write (Memory.zeroed m i) i 0

theorem Memory.read_zeroed (m : Memory) {i j : Nat} (h : j < i) : Memory.read (Memory.zeroed m i) j = some 0 := by
  induction i with
  | zero => exact absurd h (Nat.not_lt_zero j)
  | succ i ih =>
    rw [Memory.zeroed, Memory.read_write]
    split_ifs with hj
    · rfl
    · exact ih (by omega)

/-- `i` bytes received as 0, the last at index `r` (R187). -/
def State.zerosReceived (s : State) (i r : Nat) : State :=
  { s with rxbuf := Memory.zeroed s.rxbuf i, rxcnt := BitVec.ofNat 9 i, ridx := BitVec.ofNat 9 r }

/-- At the start of the byte received at index `i` (R187). -/
def State.receiving (s : State) (i : Nat) : State := (s.zerosReceived i i).entered .rData (BitVec.ofNat 9 i)

/-! ### The parts of the transaction -/

/-- Through the wait before the read phase (R182). -/
theorem preWait_leads_rStart {s : State} (hb : s.busy = true) (hdone : s.done = false) :
    Leads (s.entered .preWait 0) (s.wait.toNat * s.par.clkPerUs + 1) (({ s with wcnt := 0 } : State).entered .rStart 0) := by
  intro t m hlow
  obtain ⟨hcount, x, hx⟩ := waitStateLastsItsCount ((s.movedTo t).entered .preWait 0) (.inl rfl) hb fun k hk =>
    (hlow k (Nat.lt_add_right m hk)).1
  refine ⟨(s.movedTo t).later (s.wait.toNat * s.par.clkPerUs + 1) x, ⟨hx, fun k hk => ?_⟩, stuckLowFor_later x hlow⟩
  obtain ⟨y, hy⟩ := hcount k (Nat.lt_succ_iff.mp hk)
  exact ⟨_, hy, hb, hdone⟩

section
variable {s : State} (hb : s.busy = true) (hdone : s.done = false) (hd : s.dly = 0)
include hb hdone hd

/-- From GO to the address byte (R176). -/
theorem init_leads_wAddr : Leads (s.entered .init 0) ((2 * s.opCycles + 1) + (4 * s.opCycles + 1)) (s.entered .wAddr 0) := by
  intro t m hlow
  obtain ⟨d, v, e, o, x, h⟩ := address_goesOn (s := s.movedTo t) hb hdone hd (stuckLowFor_left hlow).quietFor
  exact ⟨({ s.movedTo t with sclDir := d, sclVal := v, sdaDir := e, startOpen := o } : State).later _ x, h,
    stuckLowFor_later x hlow⟩

/-- A state that sends a byte, which is acknowledged; `e` is what its completion step leaves. -/
theorem out_leads {q : Seq} {i : BitVec 9} {data : Byte} {e : State} (hq : q.command = some .out)
    (hs : s.entered q i = (s.setPc q 0).startCommand .out false data)
    (hc : ∀ t, t.ack = true → complete (({ s.entered q i with ustep := 36 } : State).movedTo t) = .next (e.movedTo t)) :
    Leads (s.entered q i) (35 * s.opCycles + 2) e := by
  rw [hs] at hc ⊢
  have h : CommandStart ((s.setPc q 0).startCommand .out false data) := ⟨hq, hb, hd, rfl⟩
  exact h.leads hdone rfl fun t hlow => ⟨_,
    CommandStart.beforeOp_acked (s := (s.setPc q 0).movedTo t) ⟨hq, hb, hd, rfl⟩ hlow,
    fun x => hc (State.later (State.acked _) _ x) rfl⟩

/-- From the address byte to the first byte of the payload (R177). -/
theorem wAddr_leads_sending (hw : s.first < s.wlen.toNat) :
    Leads (s.entered .wAddr 0) (35 * s.opCycles + 2) (s.sending s.first) :=
  out_leads hb hdone hd rfl rfl fun _ ha => complete_wAddr_of_payload ha rfl hw

/-- From the address byte to the STOP, without payload (R177). -/
theorem wAddr_leads_wStop (hw : s.wlen.toNat ≤ s.first) :
    Leads (s.entered .wAddr 0) (35 * s.opCycles + 2) (s.entered .wStop 0) :=
  out_leads hb hdone hd rfl rfl fun _ ha => complete_wAddr_of_no_payload ha rfl hw

/-- From a byte of the payload to the next (R178). -/
theorem sending_leads_sending {i : Nat} (hlt : i < 512) (hw : i + 1 < s.wlen.toNat) :
    Leads (s.sending i) (35 * s.opCycles + 2) (s.sending (i + 1)) :=
  out_leads (s := { s with widx := BitVec.ofNat 9 i }) hb hdone hd rfl rfl fun t ha =>
    complete_wData_of_next (s := State.movedTo { s.sending i with ustep := 36 } t) ha rfl rfl hlt hw

/-- From the last byte of the payload to the STOP (R178). -/
theorem sending_leads_wStop {i : Nat} (hlt : i < 512) (hw : s.wlen.toNat ≤ i + 1) :
    Leads (s.sending i) (35 * s.opCycles + 2) (({ s with widx := BitVec.ofNat 9 i } : State).entered .wStop 0) :=
  out_leads (s := { s with widx := BitVec.ofNat 9 i }) hb hdone hd rfl rfl fun _ ha =>
    complete_wData_of_last ha rfl rfl hlt hw

/-- From the STOP of the write phase to the wait before the read phase (R179). -/
theorem wStop_leads_preWait (hr : s.rlen ≠ 0) : Leads (s.entered .wStop 0) (4 * s.opCycles + 1)
    (({ s with bop := .stop, bdata := 0, blast := false } : State).entered .preWait 0) := by
  have h : CommandStart (s.entered .wStop 0) := ⟨rfl, hb, hd, rfl⟩
  exact h.leads hdone rfl fun t _ => ⟨_, beforeOp_bStop ((s.setPc .wStop 0).movedTo t), fun _ =>
    complete_wStop_of_read rfl hr⟩

/-- From the read's START to its address byte (R183). -/
theorem rStart_leads_rAddr : Leads (s.entered .rStart 0) (4 * s.opCycles + 1) (s.entered .rAddr 0) := by
  have h : CommandStart (s.entered .rStart 0) := ⟨rfl, hb, hd, rfl⟩
  exact h.leads hdone rfl fun t _ => ⟨_, beforeOp_bStart ((s.setPc .rStart 0).movedTo t), fun _ => enter_eq .rAddr 0 _⟩

/-- From the read's address byte to the first byte received (R184). -/
theorem rAddr_leads_receiving (hx : s.rxcnt = 0) :
    Leads (s.entered .rAddr 0) (35 * s.opCycles + 2) (s.receiving 0) := by
  have hzero : s.receiving 0 = ({ s with ridx := 0 } : State).entered .rData 0 := by
    rw [State.receiving, State.zerosReceived, show BitVec.ofNat 9 0 = s.rxcnt from hx.symm, hx]
    rfl
  rw [hzero]
  exact out_leads hb hdone hd rfl rfl fun _ ha => complete_rAddr_of_ack ha rfl

/-- A state that receives a byte, which is 0; `e` is what its completion step leaves. -/
theorem receiving_leads {i : Nat} {e : State} (hc : ∀ t,
    complete (({ s.receiving i with ustep := 28 } : State).movedTo t) = .next (e.movedTo t)) :
    Leads (s.receiving i) (20 * s.opCycles + 9) e := by
  have h : CommandStart (s.receiving i) := ⟨rfl, hb, hd, rfl⟩
  exact h.leads hdone rfl fun t hlow => ⟨_,
    CommandStart.beforeOp_byteRead (s := ((s.zerosReceived i i).setPc .rData 0).movedTo t) ⟨rfl, hb, hd, rfl⟩ hlow,
    fun x => hc (State.later (State.byteRead _) _ x)⟩

/-- From a received byte to the next (R187). -/
theorem receiving_leads_receiving {i : Nat} (hlt : i < 512) (hr : i + 1 < s.rlen.toNat) :
    Leads (s.receiving i) (20 * s.opCycles + 9) (s.receiving (i + 1)) :=
  receiving_leads hb hdone hd fun _ => complete_rData_of_next rfl hlt rfl rfl hr

/-- From the last received byte to the STOP (R187). -/
theorem receiving_leads_rStop {i : Nat} (hlt : i < 512) (hr : s.rlen.toNat ≤ i + 1) :
    Leads (s.receiving i) (20 * s.opCycles + 9) ((s.zerosReceived (i + 1) i).entered .rStop 0) :=
  receiving_leads hb hdone hd fun _ => complete_rData_of_last rfl hlt rfl rfl hr

/-! ### The two phases -/

/-- From the address byte through a payload of `r + 1` bytes to the STOP. -/
theorem payload_leads {r : Nat} (hr : s.wlen.toNat = s.first + (r + 1)) (hlt : s.wlen.toNat ≤ 256) :
    Leads (s.entered .wAddr 0) ((35 * s.opCycles + 2) + r * (35 * s.opCycles + 2) + (35 * s.opCycles + 2))
      (({ s with widx := BitVec.ofNat 9 (s.first + r) } : State).entered .wStop 0) := by
  have hfirst := wAddr_leads_sending hb hdone hd (by omega)
  have hlast := hfirst.iterate (f := fun i => s.sending (s.first + i)) (n := r) fun i hi =>
    sending_leads_sending hb hdone hd (by omega) (by omega)
  exact hlast.trans (sending_leads_wStop hb hdone hd (by omega) (by omega))

/-- The write phase up to its STOP, with a payload of `n` bytes (R250). -/
theorem writePhase_leads {n : Nat} (hn : s.wlen.toNat - s.first = n) (hlt : s.wlen.toNat ≤ 256) : ∃ w,
    Leads (s.entered .init 0) ((2 * s.opCycles + 1) + (4 * s.opCycles + 1) + (1 + n) * (35 * s.opCycles + 2))
      (({ s with widx := w } : State).entered .wStop 0) := by
  have haddr := init_leads_wAddr hb hdone hd
  cases n with
  | zero =>
    refine ⟨s.widx, ?_⟩
    rw [Nat.add_zero, Nat.one_mul]
    exact haddr.trans (wAddr_leads_wStop hb hdone hd (by omega))
  | succ r =>
    have hcycles : (1 + (r + 1)) * (35 * s.opCycles + 2) =
        (35 * s.opCycles + 2) + r * (35 * s.opCycles + 2) + (35 * s.opCycles + 2) := by ring
    rw [hcycles]
    exact ⟨_, haddr.trans (payload_leads hb hdone hd (by omega) hlt)⟩

/-- From the read's address byte through `r + 1` bytes received to the STOP. -/
theorem received_leads {r : Nat} (hr : s.rlen.toNat = r + 1) (hlt : s.rlen.toNat ≤ 256) (hx : s.rxcnt = 0) :
    Leads (s.entered .rAddr 0) ((35 * s.opCycles + 2) + r * (20 * s.opCycles + 9) + (20 * s.opCycles + 9))
      ((s.zerosReceived (r + 1) r).entered .rStop 0) := by
  have hfirst := rAddr_leads_receiving hb hdone hd hx
  have hlast := hfirst.iterate (f := s.receiving) (n := r) fun i hi =>
    receiving_leads_receiving hb hdone hd (by omega) (by omega)
  exact hlast.trans (receiving_leads_rStop hb hdone hd (by omega) hr.le)

/-- The read phase up to its STOP, the wait before it included, with `r + 1` bytes received (R250). -/
theorem readPhase_leads {r : Nat} (hr : s.rlen.toNat = r + 1) (hlt : s.rlen.toNat ≤ 256) (hx : s.rxcnt = 0) :
    Leads (s.entered .preWait 0)
      ((s.wait.toNat * s.par.clkPerUs + 1) + (4 * s.opCycles + 1) + (35 * s.opCycles + 2) + (r + 1) * (20 * s.opCycles + 9))
      ((({ s with wcnt := 0 } : State).zerosReceived (r + 1) r).entered .rStop 0) := by
  have haddr := (preWait_leads_rStart hb hdone).trans (rStart_leads_rAddr hb hdone hd)
  have hcycles : (35 * s.opCycles + 2) + (r + 1) * (20 * s.opCycles + 9) =
      (35 * s.opCycles + 2) + r * (20 * s.opCycles + 9) + (20 * s.opCycles + 9) := by ring
  rw [Nat.add_assoc _ (35 * s.opCycles + 2), hcycles]
  exact haddr.trans (received_leads (s := { s with wcnt := 0 }) hb hdone hd hr hlt hx)

/-- The STOP that ends the transaction with success, both lines high and no START open after it (R179, R188, R153). -/
theorem lastStop_ends {q : Seq} (hq : q = .wStop ∧ s.rlen = 0 ∨ q = .rStop) (t : State)
    (hlow : ((s.entered q 0).movedTo t).stuckLowFor (4 * s.opCycles + 1)) :
    ∃ u : State, u.startOpen = false ∧ u.sclHigh ∧ u.sdaDir = .inp ∧
      GoesOn ((s.entered q 0).movedTo t) (4 * s.opCycles + 1)
        ((({ s with bop := .stop, bdata := 0, blast := false } : State).finish true).movedTo u) := by
  have hs : s.entered q 0 = (s.setPc q 0).startCommand .stop false 0 := by rcases hq with ⟨rfl, -⟩ | rfl <;> rfl
  have hcommand : q.command = some .stop := by rcases hq with ⟨rfl, -⟩ | rfl <;> rfl
  rw [hs] at hlow ⊢
  have h : CommandStart (((s.setPc q 0).startCommand .stop false 0).movedTo t) := ⟨hcommand, hb, hd, rfl⟩
  have hscl : (if s.cfg.getLsbD 0 then Dir.out else Dir.inp) = .inp ∨ s.cfg.getLsbD 0 = true := by
    cases s.cfg.getLsbD 0 <;> simp
  obtain ⟨x, hx⟩ := h.goesOn hdone rfl hlow.quietFor (beforeOp_bStop ((s.setPc q 0).movedTo t)) (e := State.finish _ true)
    fun _ => complete_of_last_stop hq
  exact ⟨({ s.movedTo t with
    sclDir := if s.cfg.getLsbD 0 then .out else .inp
    sclVal := s.cfg.getLsbD 0, sdaDir := .inp, startOpen := false } : State).later _ x, rfl, hscl, rfl, hx⟩

end

/-- A run to the last STOP ends with it. -/
theorem Leads.ends {s e : State} {q : Seq} {n c : Nat} (h : Leads s n (e.entered q 0)) (hb : e.busy = true)
    (hdone : e.done = false) (hd : e.dly = 0) (hq : q = .wStop ∧ e.rlen = 0 ∨ q = .rStop)
    (hc : n + (4 * e.opCycles + 1) = c) (hlow : s.stuckLowFor c) :
    ∃ u : State, u.startOpen = false ∧ u.sclHigh ∧ u.sdaDir = .inp ∧
      GoesOn s c ((({ e with bop := .stop, bdata := 0, blast := false } : State).finish true).movedTo u) := by
  subst hc
  obtain ⟨t, ht, hlow'⟩ := h s _ hlow
  obtain ⟨u, hopen, hscl, hsda, hu⟩ := lastStop_ends hb hdone hd hq t hlow'
  exact ⟨u, hopen, hscl, hsda, ht.trans hu⟩

/-- `s` with a GO accepted, `S_INIT` about to be entered (R172). -/
def State.accepted (s : State) : State := { s.clearResults with busy := true, a7 := s.slaveAddr, hRdata := 0 }

/-- Settles O48: from GO through the write phase, and through the read phase if there is one, to the last STOP. -/
theorem stuckLowTransactionEndsOnTime : Obligations.StuckLowTransactionEndsOnTime := by
  intro s hwf hready hlegal n m total hlow
  have hgo : exec .transaction s = .next (s.accepted.entered .init 0) := exec_transaction_started hready hlegal
  obtain ⟨-, -, -, hd⟩ := hready
  obtain ⟨hwlen, hrlen⟩ : s.wlen.toNat ≤ 256 ∧ s.rlen.toNat ≤ 256 := by
    obtain ⟨htx, hrx⟩ := depths_le_of_wf hwf
    have hbad := (badDescriptor_iff s).not.mp (by simp [hlegal])
    omega
  obtain ⟨w, hwrite⟩ := writePhase_leads (s := s.accepted) (n := n) rfl rfl hd rfl hwlen
  obtain hm | ⟨r, hm⟩ : m = 0 ∨ ∃ r, m = r + 1 := by cases m <;> simp
  · have htotal : s.writeCycles n = total := by simp only [total, if_pos hm, Nat.add_zero]
    obtain ⟨u, hopen, hscl, hsda, hu⟩ := hwrite.ends rfl rfl hd (.inl ⟨rfl, BitVec.eq_of_toNat_eq hm⟩) htotal hlow
    rw [hm]
    exact ⟨_, _, hgo, hu.run, hu.busy, rfl, rfl, rfl, rfl, rfl, rfl, rfl, nofun, hopen, hscl, hsda⟩
  · have hr : s.rlen ≠ 0 := fun h0 => by simp [m, h0] at hm
    have htotal : s.writeCycles n + s.readCycles (r + 1) = total := by simp only [total, hm, Nat.succ_ne_zero, if_false]
    have hread := (hwrite.trans (wStop_leads_preWait rfl rfl hd hr)).trans (readPhase_leads (r := r)
      (s := { s.accepted with widx := w, bop := .stop, bdata := 0, blast := false }) rfl rfl hd hm hrlen rfl)
    obtain ⟨u, hopen, hscl, hsda, hu⟩ := hread.ends rfl rfl hd (.inr rfl) ((Nat.add_assoc _ _ _).trans htotal) hlow
    rw [hm]
    refine ⟨_, _, hgo, hu.run, hu.busy, rfl, rfl, rfl, rfl, rfl, rfl, ?_, fun j hj => ?_, hopen, hscl, hsda⟩
    · exact (index_eq rfl (by omega)).1
    · exact congrArg (Option.getD · _) (Memory.read_zeroed s.rxbuf hj)

end Sys2Proof.Machine
end
